-- ==== Sys2Proof/Word.lean ====
section
/-!
DEFINITION. The widths of 00_scope.md R6 and R8: the bytes and words the block works on. Every value is unsigned (R8),
so each is a plain bit vector. The widths are also fields of `Config`, and `fcb_fits` (Laws/Ops.lean) says that they are these.
-/

namespace Sys2Proof

/-- A byte, 8 bits (R8). -/
abbrev Byte := BitVec 8

/-- A word of the host's register interface, 32 bits (R6 "32-bit data", R51). -/
abbrev Word := BitVec 32

/-- A value of the CRC accumulator: `CRC_WIDTH` = 16 bits (R6). -/
abbrev Crc := BitVec 16

/-- The error record: `ERR_WIDTH` = 4 bits (R6). -/
abbrev Err := BitVec 4

/-- A word offset on the register interface: 7 bits, 0 to 127 (R6, R50). -/
abbrev WordOffset := BitVec 7

/-- A byte offset inside the 512-byte window, 0x000 to 0x1FF (R6, R50). -/
abbrev ByteOffset := BitVec 9

end Sys2Proof
end

