-- ==== Sys2Proof/Syntax.lean ====
section
/-!
DEFINITION. The command set of 30_encoding.md R82, one constructor per row, and the three fields of a command word (R80).
-/

namespace Sys2Proof

/-- The twelve commands (30_encoding.md R82). An operand is the word's ARG byte, used as it stands (R81). -/
inductive Instr where
  /-- NOP, 43_control.md R180. -/
  | nop
  /-- CRC_INIT, 40_crc.md R104. -/
  | crcInit
  /-- CRC_BYTE d, 40_crc.md R105. -/
  | crcByte (d : Byte)
  /-- SET_ADDR a, 41_frame.md R123. -/
  | setAddr (a : Byte)
  /-- FRAME_CLEAR, 41_frame.md R124. -/
  | frameClear
  /-- FRAME_PUSH d, 41_frame.md R126. -/
  | framePush (d : Byte)
  /-- FRAME_SEAL, 41_frame.md R127. -/
  | frameSeal
  /-- FRAME_BUILD t, 41_frame.md R128. -/
  | frameBuild (t : Byte)
  /-- RESP_START, 42_match.md R151. -/
  | respStart
  /-- RESP_BYTE d, 42_match.md R152. -/
  | respByte (d : Byte)
  /-- CLR_ERR, 43_control.md R181. -/
  | clrErr
  /-- SOFT_RESET, 43_control.md R182. -/
  | softReset
  deriving DecidableEq, Repr

/-- The fields of a command word (R80): OP in bits 31:24, RSV in 23:8, ARG in 7:0. -/
structure Fields where
  op : BitVec 8
  rsv : BitVec 16
  arg : Byte
  deriving DecidableEq, Repr

/-- Why a word is illegal, R84 (a), (b) and (c). The block records only E_ILLEGAL; the reason is for the reader. -/
inductive Illegal where
  /-- OP is not one of the twelve values of R82. -/
  | unassignedOp
  /-- RSV is not 0. -/
  | reservedNonzero
  /-- The command takes no ARG and ARG is not 0. -/
  | argNonzero
  deriving DecidableEq, Repr

/-- What a decoder answers: every 32-bit word either selects exactly one row or is illegal (R83). -/
inductive Decoded where
  | legal (i : Instr)
  | illegal (why : Illegal)
  deriving DecidableEq, Repr

end Sys2Proof
end

