-- ==== Sys2Proof/WellFormed.lean ====
section
/-!
DEFINITION. The three checks of 30_encoding.md R84 on the fields of a command word, written from R82's columns and not
from the decoder's table, so that the two can be compared. An operand of `Instr` is a byte by its type, and all of its 256
values are legal (R81, R85), so nothing else is to be checked.
-/

namespace Sys2Proof

/-- The twelve assigned opcodes (R82). -/
def assignedOps : List (BitVec 8) :=
  [0x00, 0x01, 0x02, 0x10, 0x11, 0x12, 0x13, 0x14, 0x20, 0x21, 0x30, 0x3F]

/-- The five opcodes whose command takes an ARG (R82, the rows without a dash). -/
def argOps : List (BitVec 8) := [0x02, 0x10, 0x12, 0x14, 0x21]

/-- R84 (a) does not hold: the opcode is one of the twelve. -/
def Fields.opAssigned (f : Fields) : Bool := decide (f.op ∈ assignedOps)

/-- R84 (b) does not hold: the reserved field is 0. -/
def Fields.rsvZero (f : Fields) : Bool := f.rsv == 0

/-- R84 (c) does not hold: ARG is 0 where the command takes none. -/
def Fields.argAllowed (f : Fields) : Bool := decide (f.op ∈ argOps) || f.arg == 0

/-- The fields of a legal word: none of R84's three conditions holds. -/
def Fields.wellFormed (f : Fields) : Bool := f.opAssigned && f.rsvZero && f.argAllowed

end Sys2Proof
end

