-- ==== Sys2Proof/Decode.lean ====
section
/-!
DEFINITION. The decoder and the encoder of command words, from 30_encoding.md R80 to R87. The decoder is R83's: the first
row of R82's table whose mask and match select the word; a word that no row selects is illegal, by R84's reason.
-/

namespace Sys2Proof

/-- The fields of a word (R80). -/
def fieldsOf (w : Word) : Fields :=
  { op := w.extractLsb' 24 8, rsv := w.extractLsb' 8 16, arg := w.extractLsb' 0 8 }

/-- One row of R82: it selects a word `w` when `w & mask = pattern`, and its command is built from ARG. -/
structure Row where
  mnemonic : String
  pattern : Word
  mask : Word
  build : Byte → Instr

/-- R82's table, in its order. -/
def rows : List Row :=
  [ ⟨"NOP",         0x00000000, 0xFFFFFFFF, fun _ => .nop⟩,
    ⟨"CRC_INIT",    0x01000000, 0xFFFFFFFF, fun _ => .crcInit⟩,
    ⟨"CRC_BYTE",    0x02000000, 0xFFFFFF00, .crcByte⟩,
    ⟨"SET_ADDR",    0x10000000, 0xFFFFFF00, .setAddr⟩,
    ⟨"FRAME_CLEAR", 0x11000000, 0xFFFFFFFF, fun _ => .frameClear⟩,
    ⟨"FRAME_PUSH",  0x12000000, 0xFFFFFF00, .framePush⟩,
    ⟨"FRAME_SEAL",  0x13000000, 0xFFFFFFFF, fun _ => .frameSeal⟩,
    ⟨"FRAME_BUILD", 0x14000000, 0xFFFFFF00, .frameBuild⟩,
    ⟨"RESP_START",  0x20000000, 0xFFFFFFFF, fun _ => .respStart⟩,
    ⟨"RESP_BYTE",   0x21000000, 0xFFFFFF00, .respByte⟩,
    ⟨"CLR_ERR",     0x30000000, 0xFFFFFFFF, fun _ => .clrErr⟩,
    ⟨"SOFT_RESET",  0x3F000000, 0xFFFFFFFF, fun _ => .softReset⟩ ]

/-- A row selects a word (R82, R83). -/
def Row.selects (r : Row) (w : Word) : Bool := w &&& r.mask == r.pattern

/-- The reason R84 gives for an illegal word, in R84's order. -/
def whyIllegal (f : Fields) : Illegal :=
  if !f.opAssigned then .unassignedOp
  else if !f.rsvZero then .reservedNonzero
  else .argNonzero

/-- R83: run the row that selects the word, with ARG = w[7:0]; a word that no row selects is illegal. -/
def decode (w : Word) : Decoded :=
  match rows.find? (fun r => r.selects w) with
  | some r => .legal (r.build (fieldsOf w).arg)
  | none => .illegal (whyIllegal (fieldsOf w))

/-- The OP of each command (R82). -/
def Instr.op : Instr → BitVec 8
  | .nop => 0x00
  | .crcInit => 0x01
  | .crcByte _ => 0x02
  | .setAddr _ => 0x10
  | .frameClear => 0x11
  | .framePush _ => 0x12
  | .frameSeal => 0x13
  | .frameBuild _ => 0x14
  | .respStart => 0x20
  | .respByte _ => 0x21
  | .clrErr => 0x30
  | .softReset => 0x3F

/-- The ARG of each command: its operand, or 0x00 where it takes none (R80, R82). -/
def Instr.arg : Instr → Byte
  | .nop => 0x00
  | .crcInit => 0x00
  | .crcByte d => d
  | .setAddr a => a
  | .frameClear => 0x00
  | .framePush d => d
  | .frameSeal => 0x00
  | .frameBuild t => t
  | .respStart => 0x00
  | .respByte d => d
  | .clrErr => 0x00
  | .softReset => 0x00

/-- R87: a command is encoded as `OP << 24 | arg`. -/
def encode (i : Instr) : Word := (i.op.setWidth 32 <<< 24) ||| i.arg.setWidth 32

/-- An instruction is well formed when the fields of its word pass R84's checks. -/
def Instr.wellFormed (i : Instr) : Bool := (fieldsOf (encode i)).wellFormed

/-- A command word given as a number of `nbits` bits, every bit above them 0. A command is one word (R80), stored nowhere:
the bus carries it whole (20_memory.md R51, R62), so no byte order applies. -/
def commandWord (nbits w : Nat) : Word := BitVec.ofNat 32 (w % 2 ^ nbits)

/-- The instruction the decoder reads from the `nbits` low bits of `w`. -/
def decodeTableWord (nbits w : Nat) : Option Instr :=
  match decode (commandWord nbits w) with
  | .legal i => some i
  | .illegal _ => none

end Sys2Proof
end

