-- ==== Sys2Proof/Config.lean ====
section
/-!
DEFINITION. The implementation parameters of 00_scope.md R6, each a named field (R7), fixed for a whole run (R20).
This hardware's values are `Machine.fcb` in Machine/Params.lean. The bit vectors that hold values of these widths are the types
of Word.lean; `Machine.Fits` says that a configuration's widths are theirs (log entry 9).
-/

namespace Sys2Proof

/-- `MATCH_ALIGN` (R6): whether a marker is a whole byte or any hex-text substring (42_match.md R153, R157). -/
inductive MatchAlign where
  | byte
  | nibble
  deriving DecidableEq, Repr

/-- `CRC_BYTE_ORDER` (R6): which checksum byte is appended first. -/
inductive ByteOrder where
  | lowFirst
  | highFirst
  deriving DecidableEq, Repr

/-- One place of a command template (41_frame.md R121): a fixed byte, or the slot the reader address goes into. -/
inductive TemplateByte where
  | fixed (b : Byte)
  | addr
  deriving DecidableEq, Repr

/-- The parameters of R6. -/
structure Config where
  /-- `CRC_WIDTH`, in bits. -/
  crcWidth : Nat
  /-- `CRC_PRESET`. -/
  crcPreset : Crc
  /-- `CRC_POLY`, applied LSB-first. -/
  crcPoly : Crc
  /-- `CRC_XOROUT`: nothing, or a value XORed into the final accumulator. -/
  crcXorOut : Option Crc
  /-- `CRC_BYTE_ORDER`. -/
  crcByteOrder : ByteOrder
  /-- `ADDR_RESET`. -/
  addrReset : Byte
  /-- `TEMPLATE_0`, `TEMPLATE_1`, ...: the template of id t stands at index t. -/
  templates : List (List TemplateByte)
  /-- `TEMPLATE_COUNT`: the ids from this number up are reserved. -/
  templateCount : Nat
  /-- `FRAME_CAP`, in bytes, the two checksum bytes included. -/
  frameCap : Nat
  /-- `RESP_MAX`, in bytes. -/
  respMax : Nat
  /-- `MARKERS`. -/
  markers : List Byte
  /-- `UID_BYTES`. -/
  uidBytes : Nat
  /-- `MATCH_ALIGN`. -/
  matchAlign : MatchAlign
  /-- `ERR_WIDTH`, in bits. -/
  errWidth : Nat
  /-- The register interface's data width, in bits. -/
  dataWidth : Nat
  /-- The register interface's word offset width, in bits. -/
  offsetWidth : Nat
  deriving DecidableEq, Repr

end Sys2Proof
end

