-- ==== Sys2Proof/Machine/Params.lean ====
section
/-!
DEFINITION. This hardware's parameter values, the "value" column of 00_scope.md R6, and the sizes that follow from the
parameters.
-/

namespace Sys2Proof.Machine

/-- The frame codec block's configuration (R6). -/
def fcb : Config where
  crcWidth := 16
  crcPreset := 0xFFFF
  crcPoly := 0x8408
  crcXorOut := none
  crcByteOrder := .lowFirst
  addrReset := 0xFF
  templates :=
    [ [.fixed 0x06, .addr, .fixed 0x01, .fixed 0x00, .fixed 0x06],
      [.fixed 0x04, .addr, .fixed 0x0F] ]
  templateCount := 2
  frameCap := 256
  respMax := 512
  markers := [0xFB, 0xFE]
  uidBytes := 3
  matchAlign := .byte
  errWidth := 4
  dataWidth := 32
  offsetWidth := 7

/-- The checksum's length in bytes (41_frame.md R122: two for this hardware). -/
def crcBytes (cfg : Config) : Nat := cfg.crcWidth / 8

/-- The bytes in a word of the register interface. -/
def dataBytes (cfg : Config) : Nat := cfg.dataWidth / 8

/-- The size of the register window in bytes (R6: 512). -/
def windowBytes (cfg : Config) : Nat := 2 ^ cfg.offsetWidth * dataBytes cfg

/-- The configuration's widths are those of the types of Word.lean, its window is what a byte offset reaches, and it has a
template for each id that is not reserved. -/
structure Fits (cfg : Config) : Prop where
  crc : Crc = BitVec cfg.crcWidth
  err : Err = BitVec cfg.errWidth
  data : Word = BitVec cfg.dataWidth
  wordOffset : WordOffset = BitVec cfg.offsetWidth
  window : windowBytes cfg = 2 ^ 9
  templates : cfg.templates.length = cfg.templateCount

/-- The longest payload a frame takes: `FRAME_CAP` less the checksum's bytes, 254 for this hardware (R6, 41_frame.md R126). -/
def payloadMax (cfg : Config) : Nat := cfg.frameCap - crcBytes cfg

/-- The alternative reading of the markers, `MATCH_ALIGN = NIBBLE` (42_match.md R157); all else as this hardware. -/
def fcbNibble : Config := { fcb with matchAlign := .nibble }

end Sys2Proof.Machine
end

