-- ==== Sys2Proof/Machine/Operands.lean ====
section
/-!
DEFINITION. The forms in which a command's ARG is used (30_encoding.md R81): as a byte, zero-extended, as a template id, and
substituted into a template; and the bytes of a wider value.
-/

namespace Sys2Proof.Machine

/-- `zext_N(v)` (00_scope.md R8). -/
def zext {n : Nat} (m : Nat) (v : BitVec n) : BitVec m := v.setWidth m

/-- Bits 8j+7:8j of a value: its byte j, byte 0 the least significant. -/
def byteAt {n : Nat} (v : BitVec n) (j : Nat) : Byte := v.extractLsb' (8 * j) 8

/-- A template's byte, with the reader address in the place of the slot (41_frame.md R121). -/
def fillByte (a : Byte) : TemplateByte → Byte
  | .fixed b => b
  | .addr => a

/-- `TEMPLATE(t, a)` (41_frame.md R121), or nothing for a reserved id, one from `TEMPLATE_COUNT` up (30_encoding.md R85). -/
def templateBytes (cfg : Config) (t a : Byte) : Option (List Byte) :=
  if t.toNat < cfg.templateCount then cfg.templates[t.toNat]?.map (fun bs => bs.map (fillByte a)) else none

/-- `((r << 8) | zext_24(d))[23:0]`: the newest byte enters bits 7:0 and the oldest is discarded (42_match.md R152). -/
def shiftIn (r : BitVec 24) (d : Byte) : BitVec 24 := (r <<< 8) ||| zext 24 d

end Sys2Proof.Machine
end

