-- ==== Sys2Proof/Machine/State.lean ====
section
/-!
DEFINITION. The block's state (10_state.md R20), the host events it serves, and the reasons a step can stop.
-/

namespace Sys2Proof.Machine

/-- The width of a host access on a byte-addressed bus. Only `word` can be expressed on the interface (20_memory.md R51). -/
inductive AccessSize where
  | byte
  | half
  | word
  | double
  deriving DecidableEq, Repr

/-- What the outside does to the block: one event is one atomic step (00_scope.md R12, 20_memory.md R54). -/
inductive HostEvent where
  /-- A read of the register window, at a byte offset in it (R50, R52). -/
  | read (off : ByteOffset) (size : AccessSize)
  /-- A write to the register window (R50, R53). -/
  | write (off : ByteOffset) (size : AccessSize) (v : Word)
  /-- The reset input, asserted and released (70_reset_and_hazards.md R220; one step, 93_implementation_defined.md I11). -/
  | reset
  deriving DecidableEq, Repr

/-- The error codes of 60_exceptions.md R201 that a command can raise. -/
inductive ErrCode where
  /-- E_ILLEGAL: the word matches no row. -/
  | illegal
  /-- E_TEMPLATE: FRAME_BUILD with a template id 2 to 255. -/
  | template
  /-- E_SEALED: FRAME_PUSH or FRAME_SEAL on a sealed frame. -/
  | sealed
  /-- E_FULL: FRAME_PUSH on an open frame that holds the longest payload. -/
  | full
  deriving DecidableEq, Repr

/-- The block never faults: it has no trap and no halt state, a failing command records a code and the block goes on
(60_exceptions.md R200). So there is no constructor, nothing raises one, and that is safe. -/
inductive Fault where
  deriving DecidableEq, Repr

/-- Why a step is refused. -/
inductive Refusal where
  /-- An instruction whose meaning is not written, raised by an arm of `exec` only. No arm of this model raises it. Safe:
  nothing can be proved of such a step. -/
  | notModelled (mnemonic : String)
  /-- A bus access that is not an aligned 32-bit word, raised by `serve`: it cannot be expressed on the interface, and
  20_memory.md R51 has a model refuse it. Safe: no value and no state is claimed for it. -/
  | inexpressibleAccess
  deriving DecidableEq, Repr

/-- The block's nine fields (10_state.md R20), and the two fields of the model that hold the host's side. -/
structure State where
  /-- CRC accumulator (R22). -/
  crc : Crc
  /-- Reader address (R23). -/
  addr : Byte
  /-- Frame buffer, byte 0 first on the wire (R24). -/
  fbuf : List Byte
  /-- The checksum is appended (R27). -/
  sealed : Bool
  /-- Response bytes accepted since RESP_START (R26). -/
  rcount : BitVec 10
  /-- The last three accepted bytes, newest in bits 7:0 (R28). -/
  rlast : BitVec 24
  /-- The spec's `match`: a marker was seen (R29). -/
  matched : Bool
  /-- A byte was offered after RESP_MAX (R30). -/
  ovf : Bool
  /-- First error code since the last clear (R31). -/
  err : Err
  /-- MODEL: the events the host has yet to issue, in its order (R21, R58; log entry 1). -/
  pending : List HostEvent
  /-- MODEL: the value the latest event returned to the host, if it was a read (R12; log entry 1). -/
  reply : Option Word
  deriving DecidableEq, Repr

/-- What a meaning answers. -/
abbrev Result := Host.Outcome State Fault Refusal

/-- The machine right after reset (10_state.md R45); the host has issued nothing yet. -/
def State.reset : State where
  crc := fcb.crcPreset
  addr := fcb.addrReset
  fbuf := []
  sealed := false
  rcount := 0
  rlast := 0
  matched := false
  ovf := false
  err := 0
  pending := []
  reply := none

end Sys2Proof.Machine
end

