-- ==== Sys2Proof/Machine/Flags.lean ====
section
/-!
DEFINITION. The computation of every flag and of every field derived from flags: the marker test (42_match.md R153, R157), the
classification (R154, R155), the error codes (60_exceptions.md R201) and the STATUS word (10_state.md R36).
-/

namespace Sys2Proof.Machine

/-- The 4-bit value of an error code (60_exceptions.md R201). -/
def ErrCode.code : ErrCode → Err
  | .illegal => 1
  | .template => 2
  | .sealed => 3
  | .full => 4

/-- `is_marker(b)` (42_match.md R153): `b` is one of `MARKERS`. -/
def isMarker (cfg : Config) (b : Byte) : Bool := decide (b ∈ cfg.markers)

/-- `nib_cross(p, d)` (42_match.md R157): the text of `p` then `d` spells "FB" or "FE" across the byte boundary. -/
def nibCross (p d : Byte) : Bool :=
  p.extractLsb' 0 4 == 0xF && (d.extractLsb' 4 4 == 0xB || d.extractLsb' 4 4 == 0xE)

/-- The `m` of RESP_BYTE (42_match.md R152): whether accepting `d` sets `match`. -/
def markerHit (cfg : Config) (rcount : BitVec 10) (rlast : BitVec 24) (d : Byte) : Bool :=
  isMarker cfg d ||
    (cfg.matchAlign == .nibble && decide (1 ≤ rcount.toNat) && nibCross (byteAt rlast 0) d)

/-- The outcomes of the source's decode, as RESULT.CLASS shows them (42_match.md R154, R163). -/
inductive ResponseClass where
  | noResponse
  | cardNotDetected
  | uid
  deriving DecidableEq, Repr

/-- The 2-bit code of an outcome (42_match.md R154). Code 3 never occurs. -/
def classCode : ResponseClass → BitVec 2
  | .noResponse => 0
  | .cardNotDetected => 1
  | .uid => 2

/-- `classify(st)` (42_match.md R154). -/
def classify (s : State) : ResponseClass :=
  if s.rcount = 0 then .noResponse
  else if s.matched then .cardNotDetected
  else .uid

/-- `uid_len(st)` = min(rcount, UID_BYTES) (42_match.md R155). -/
def uidLen (cfg : Config) (s : State) : Nat := min s.rcount.toNat cfg.uidBytes

/-- STATUS (10_state.md R36): MATCH in bit 6, OVF in bit 5, SEALED in bit 4, ERR in bits 3:0. -/
def statusWord (s : State) : Word :=
  (zext 32 (BitVec.ofBool s.matched) <<< 6) ||| (zext 32 (BitVec.ofBool s.ovf) <<< 5) |||
    (zext 32 (BitVec.ofBool s.sealed) <<< 4) ||| zext 32 s.err

/-- RESULT (10_state.md R41): CLASS in bits 29:28, UID_LEN in 25:24, UID in 23:0. -/
def resultWord (cfg : Config) (s : State) : Word :=
  (zext 32 (classCode (classify s)) <<< 28) ||| (BitVec.ofNat 32 (uidLen cfg s) <<< 24) ||| zext 32 s.rlast

end Sys2Proof.Machine
end

