-- ==== Sys2Proof/Machine/Ops.lean ====
section
/-!
DEFINITION. The shared operations: the named updates of State, the CRC functions (40_crc.md R100 to R103), the frame encoding
(41_frame.md R122), `raise Err` and its clearing (60_exceptions.md R202, R205), the matcher's acceptance of a byte
(42_match.md R152) and the reset of the block (10_state.md R45).
-/

namespace Sys2Proof.Machine

/-! The named updates: each writes the fields it names and no other. -/

/-- Write the CRC accumulator. -/
def State.setCrc (s : State) (c : Crc) : State := { s with crc := c }

/-- Write the reader address. -/
def State.setAddr (s : State) (a : Byte) : State := { s with addr := a }

/-- Write the frame buffer and its sealed flag. -/
def State.setFrame (s : State) (bs : List Byte) (closed : Bool) : State := { s with fbuf := bs, sealed := closed }

/-- Write the matcher's count, last bytes and marker flag. -/
def State.setResponse (s : State) (n : BitVec 10) (r : BitVec 24) (m : Bool) : State :=
  { s with rcount := n, rlast := r, matched := m }

/-- Write the overflow flag. -/
def State.setOvf (s : State) (b : Bool) : State := { s with ovf := b }

/-- Write the error record. -/
def State.setErr (s : State) (e : Err) : State := { s with err := e }

/-- Write the host's side: the events left and the value returned. -/
def State.setHost (s : State) (es : List HostEvent) (v : Option Word) : State := { s with pending := es, reply := v }

/-! CRC functions. -/

/-- One round (40_crc.md R100): "if low bit set, shift right and XOR polynomial; else shift right". -/
def crcRound (cfg : Config) (c : Crc) : Crc :=
  if c.getLsbD 0 then (c >>> 1) ^^^ cfg.crcPoly else c >>> 1

/-- `n` rounds in a row. -/
def crcRounds (cfg : Config) : Nat → Crc → Crc
  | 0, c => c
  | n + 1, c => crcRounds cfg n (crcRound cfg c)

/-- `crc_step(c, b)` (40_crc.md R100): XOR into the low byte, then 8 rounds. -/
def crcStep (cfg : Config) (c : Crc) (b : Byte) : Crc := crcRounds cfg 8 (c ^^^ zext 16 b)

/-- `crc16(s)` (40_crc.md R101): `crc_step` over every byte in order, from the preset. -/
def crc16 (cfg : Config) (bs : List Byte) : Crc := bs.foldl (crcStep cfg) cfg.crcPreset

/-- The final accumulator with `CRC_XOROUT` (00_scope.md R6): none here, so the accumulator as it stands (40_crc.md R103). -/
def crcFinal (cfg : Config) (c : Crc) : Crc :=
  match cfg.crcXorOut with
  | none => c
  | some x => c ^^^ x

/-- `checksum(s)` (40_crc.md R103): the bytes of the final accumulator in wire order, low byte first. -/
def checksum (cfg : Config) (bs : List Byte) : List Byte :=
  match cfg.crcByteOrder with
  | .lowFirst => (List.range (crcBytes cfg)).map (byteAt (crcFinal cfg (crc16 cfg bs)))
  | .highFirst => ((List.range (crcBytes cfg)).map (byteAt (crcFinal cfg (crc16 cfg bs)))).reverse

/-- `encode(s)` of a frame (41_frame.md R122): the bytes, then their checksum. -/
def encodeFrame (cfg : Config) (bs : List Byte) : List Byte := bs ++ checksum cfg bs

/-! Errors: this hardware's only way of taking an exception, and of leaving one. -/

/-- `raise Err(code)` (60_exceptions.md R202): the first failure is kept and no other field changes. There is no trap entry:
nothing is saved, no mode changes and no control is transferred (R209). -/
def raiseErr (e : ErrCode) (s : State) : State := if s.err = 0 then s.setErr e.code else s

/-- Clearing the error record (60_exceptions.md R205), the nearest thing to a return (R210). -/
def clearErr (s : State) : State := s.setErr 0

/-! The matcher. -/

/-- Begin a response (42_match.md R151): no byte accepted, no marker, no overflow. -/
def clearResponse (s : State) : State := (s.setResponse 0 0 false).setOvf false

/-- Accept one response byte (42_match.md R152): at `RESP_MAX` it is dropped and `ovf` set, else it is tested, shifted in and
counted. `match` is never cleared here. -/
def acceptByte (cfg : Config) (d : Byte) (s : State) : State :=
  if s.rcount = BitVec.ofNat 10 cfg.respMax then s.setOvf true
  else s.setResponse (s.rcount + 1) (shiftIn s.rlast d) (s.matched || markerHit cfg s.rcount s.rlast d)

/-! Reset. -/

/-- Every field of 10_state.md R20 at its value of R45; the host's side stays the host's. -/
def resetBlock (s : State) : State := State.reset.setHost s.pending s.reply

end Sys2Proof.Machine
end

