-- ==== Sys2Proof/Machine/Control.lean ====
section
/-!
DEFINITION. The control commands, 43_control.md R180 to R182, and the illegal word, R183.
-/

namespace Sys2Proof.Machine

/-- NOP (R180): no state changes. -/
def execNop (s : State) : Result := .next s

/-- CLR_ERR (R181). -/
def execClrErr (s : State) : Result := .next (clearErr s)

/-- SOFT_RESET (R182): the same effect on the block as the reset input (70_reset_and_hazards.md R220). -/
def execSoftReset (s : State) : Result := .next (resetBlock s)

/-- A word that encodes no command (R183): `raise Err(E_ILLEGAL)`; the word itself is recorded nowhere. -/
def execIllegal (s : State) : Result := .next (raiseErr .illegal s)

end Sys2Proof.Machine
end

