-- ==== Sys2Proof/Machine/Crc.lean ====
section
/-!
DEFINITION. The CRC unit's commands, 40_crc.md R104 and R105.
-/

namespace Sys2Proof.Machine

/-- CRC_INIT (R104): the accumulator takes the preset. -/
def execCrcInit (s : State) : Result := .next (s.setCrc fcb.crcPreset)

/-- CRC_BYTE d (R105): feed one byte to the accumulator. -/
def execCrcByte (d : Byte) (s : State) : Result := .next (s.setCrc (crcStep fcb s.crc d))

end Sys2Proof.Machine
end

