-- ==== Sys2Proof/Machine/Frame.lean ====
section
/-!
DEFINITION. The frame builder's commands, 41_frame.md R123 to R128. Each command's checks come before its writes, so a failing
command changes only `err` (60_exceptions.md R203).
-/

namespace Sys2Proof.Machine

/-- SET_ADDR a (R123). -/
def execSetAddr (a : Byte) (s : State) : Result := .next (s.setAddr a)

/-- FRAME_CLEAR (R124). -/
def execFrameClear (s : State) : Result := .next (s.setFrame [] false)

/-- FRAME_PUSH d (R126): E_SEALED is checked before E_FULL (60_exceptions.md R204). -/
def execFramePush (d : Byte) (s : State) : Result :=
  if s.sealed then .next (raiseErr .sealed s)
  else if s.fbuf.length = payloadMax fcb then .next (raiseErr .full s)
  else .next (s.setFrame (s.fbuf ++ [d]) s.sealed)

/-- FRAME_SEAL (R127): the checksum is that of the frame's bytes alone; `crc` is not read. -/
def execFrameSeal (s : State) : Result :=
  if s.sealed then .next (raiseErr .sealed s)
  else .next (s.setFrame (encodeFrame fcb s.fbuf) true)

/-- FRAME_BUILD t (R128): replaces whatever the buffer held, sealed or not. -/
def execFrameBuild (t : Byte) (s : State) : Result :=
  match templateBytes fcb t s.addr with
  | none => .next (raiseErr .template s)
  | some bs => .next (s.setFrame (encodeFrame fcb bs) true)

end Sys2Proof.Machine
end

