-- ==== Sys2Proof/Machine/Match.lean ====
section
/-!
DEFINITION. The response matcher's commands, 42_match.md R151 and R152. The matcher never raises an error (R150) and validates
nothing of a response (R160).
-/

namespace Sys2Proof.Machine

/-- RESP_START (R151). -/
def execRespStart (s : State) : Result := .next (clearResponse s)

/-- RESP_BYTE d (R152), with this hardware's `MATCH_ALIGN`. -/
def execRespByte (d : Byte) (s : State) : Result := .next (acceptByte fcb d s)

end Sys2Proof.Machine
end

