-- ==== Sys2Proof/Machine/Dispatch.lean ====
section
/-!
DEFINITION. The meaning of every command: one arm per row of 30_encoding.md R82.
-/

namespace Sys2Proof.Machine

def exec (i : Instr) (s : State) : Host.Outcome State Fault Refusal :=
  match i with
  | .nop => Sys2Proof.Machine.execNop s
  | .crcInit => Sys2Proof.Machine.execCrcInit s
  | .crcByte d => Sys2Proof.Machine.execCrcByte d s
  | .setAddr a => Sys2Proof.Machine.execSetAddr a s
  | .frameClear => Sys2Proof.Machine.execFrameClear s
  | .framePush d => Sys2Proof.Machine.execFramePush d s
  | .frameSeal => Sys2Proof.Machine.execFrameSeal s
  | .frameBuild t => Sys2Proof.Machine.execFrameBuild t s
  | .respStart => Sys2Proof.Machine.execRespStart s
  | .respByte d => Sys2Proof.Machine.execRespByte d s
  | .clrErr => Sys2Proof.Machine.execClrErr s
  | .softReset => Sys2Proof.Machine.execSoftReset s

end Sys2Proof.Machine
end

