-- ==== Sys2Proof/Machine/Registers.lean ====
section
/-!
DEFINITION. The register window (10_state.md section 4, 20_memory.md R50 to R56): the map from offsets to registers, and what
each register reads.
-/

namespace Sys2Proof.Machine

/-- The registers of 10_state.md section 4. -/
inductive Reg where
  /-- 0x000, R34. -/
  | param
  /-- 0x004, R35. -/
  | cmd
  /-- 0x008, R36. -/
  | status
  /-- 0x00C, R37. -/
  | crc
  /-- 0x010, R38. -/
  | addr
  /-- 0x014, R39. -/
  | flen
  /-- 0x018, R40. -/
  | rcount
  /-- 0x01C, R41. -/
  | result
  /-- 0x020 to 0x0FC, R43. -/
  | reserved
  /-- 0x100 + 4k, R42. -/
  | frame (k : BitVec 6)
  deriving DecidableEq, Repr

/-- The register at a byte offset (20_memory.md R53), the offset a multiple of 4 below 0x200. -/
def regAtByte (off : Nat) : Reg :=
  if off = 0x000 then .param
  else if off = 0x004 then .cmd
  else if off = 0x008 then .status
  else if off = 0x00C then .crc
  else if off = 0x010 then .addr
  else if off = 0x014 then .flen
  else if off = 0x018 then .rcount
  else if off = 0x01C then .result
  else if off < 0x100 then .reserved
  else .frame (BitVec.ofNat 6 ((off - 0x100) / 4))

/-- The register a word offset names: byte offset 4*w (20_memory.md R50). -/
def regAt (w : WordOffset) : Reg := regAtByte (4 * w.toNat)

/-- `fb(i)` (10_state.md R42): the frame's byte i, 0x00 at or beyond FLEN. -/
def frameByte (s : State) (i : Nat) : Byte := s.fbuf.getD i 0

/-- `FRAME[k]` (10_state.md R42): frame bytes 4k to 4k+3, little-endian. -/
def frameWord (s : State) (k : Nat) : Word :=
  zext 32 (frameByte s (4 * k)) ||| (zext 32 (frameByte s (4 * k + 1)) <<< 8) |||
    (zext 32 (frameByte s (4 * k + 2)) <<< 16) ||| (zext 32 (frameByte s (4 * k + 3)) <<< 24)

/-- What a register reads (10_state.md R34 to R43). -/
def readReg (r : Reg) (s : State) : Word :=
  match r with
  | .param => (zext 32 fcb.crcPoly <<< 16) ||| zext 32 fcb.crcPreset
  | .cmd => 0
  | .status => statusWord s
  | .crc => zext 32 s.crc
  | .addr => zext 32 s.addr
  | .flen => BitVec.ofNat 32 s.fbuf.length
  | .rcount => zext 32 s.rcount
  | .result => resultWord fcb s
  | .reserved => 0
  | .frame k => frameWord s k.toNat

/-- `RegRead` at a word offset (20_memory.md R53). It answers a value and no state: reads have no side effects (R52). -/
def regRead (w : WordOffset) (s : State) : Word := readReg (regAt w) s

end Sys2Proof.Machine
end

