-- ==== Sys2Proof/Machine/Access.lean ====
section
/-!
DEFINITION. How one host event is served: the bus front (20_memory.md R51), reads and writes of the window (R52, R53), the
execution of a command word (30_encoding.md R83) and the reset input (70_reset_and_hazards.md R220).
-/

namespace Sys2Proof.Machine

/-- The width of an access, in bits. -/
def AccessSize.bits : AccessSize → Nat
  | .byte => 8
  | .half => 16
  | .word => 32
  | .double => 64

/-- An access the interface can express: as wide as its data, 32 bits, and aligned to that (20_memory.md R51). -/
def expressible (off : ByteOffset) (size : AccessSize) : Bool :=
  off.extractLsb' 0 2 == 0 && size.bits == fcb.dataWidth

/-- The 7-bit word offset of an aligned byte offset (20_memory.md R50). -/
def wordOffset (off : ByteOffset) : WordOffset := off.extractLsb' 2 7

/-- The byte offset of CMD (10_state.md R35). -/
def cmdOffset : ByteOffset := 0x004

/-- `execute(w)` (30_encoding.md R83): run the row the word selects, or raise E_ILLEGAL. -/
def execute (w : Word) (s : State) : Result :=
  match decode w with
  | .legal i => exec i s
  | .illegal _ => execIllegal s

/-- `RegWrite` (20_memory.md R53): a write to CMD runs a command, any other write is ignored. -/
def regWrite (w : WordOffset) (v : Word) (s : State) : Result :=
  match regAt w with
  | .cmd => execute v s
  | _ => .next s

/-- Serve one event. A read returns its value in `reply`; no other event returns one. -/
def serve (e : HostEvent) (s : State) : Result :=
  match e with
  | .read off size =>
    if expressible off size then .next (s.setHost s.pending (some (regRead (wordOffset off) s)))
    else .refused .inexpressibleAccess
  | .write off size v =>
    if expressible off size then regWrite (wordOffset off) v (s.setHost s.pending none)
    else .refused .inexpressibleAccess
  | .reset => .next ((resetBlock s).setHost s.pending none)

/-- With no event the block holds its state (60_exceptions.md R213). -/
def idle (s : State) : Result := .next s

/-- The write of a command word to CMD. -/
def commandWrite (w : Word) : HostEvent := .write cmdOffset .word w

end Sys2Proof.Machine
end

