-- ==== Sys2Proof/Machine/Step.lean ====
section
/-!
DEFINITION. One step of the machine: the next host event is taken off the list and served (00_scope.md R12; 20_memory.md R54, R58).
-/

namespace Sys2Proof.Machine

/-- One step. -/
def step (s : State) : Host.Outcome State Fault Refusal :=
  match s.pending with
  | [] => idle s
  | e :: rest => serve e (s.setHost rest s.reply)

/-- The state in which the host's next event is the write of the given command word to CMD (10_state.md R35): the block fetches
nothing (20_memory.md R62), so this is where its next instruction comes from. Log entry 2. -/
def State.withFetchWord (s : State) (nbits w : Nat) : State :=
  s.setHost (commandWrite (commandWord nbits w) :: s.pending) s.reply

end Sys2Proof.Machine
end

