-- ==== Sys2Proof/Machine/HexText.lean ====
section
/-!
DEFINITION. The hex text of 00_scope.md R11. The block holds no text: the host spells the UID (42_match.md R156), and the source
classifies a response by its text. Text is a list of characters.
-/

namespace Sys2Proof.Machine

/-- The uppercase digits of R11, in order. -/
def hexDigits : List Char :=
  ['0', '1', '2', '3', '4', '5', '6', '7', '8', '9', 'A', 'B', 'C', 'D', 'E', 'F']

/-- The digit of a nibble. -/
def hexDigit (n : BitVec 4) : Char := hexDigits.getD n.toNat '0'

/-- `hex2(b)` (R11): high nibble first. -/
def hex2 (b : Byte) : List Char := [hexDigit (b.extractLsb' 4 4), hexDigit (b.extractLsb' 0 4)]

/-- `hexstr(s)` (R11): every byte in order, no separators. -/
def hexstr (bs : List Byte) : List Char := bs.flatMap hex2

/-- The text a host spells from a RESULT word (42_match.md R156): `hex2` of UID[23:16], UID[15:8] and UID[7:0], keeping only the
last `2 * UID_LEN` characters. -/
def uidText (result : Word) : List Char :=
  (hexstr [byteAt result 2, byteAt result 1, byteAt result 0]).drop (6 - 2 * (result.extractLsb' 24 2).toNat)

end Sys2Proof.Machine
end

