-- ==== Sys2Proof/Machine/Assembler.lean ====
section
/-!
DEFINITION. The assembler's statements and their text (30_encoding.md R87) and the pseudo-instructions (R88). They say what
sequence of accesses a host writes; nothing of the block depends on them (92_eei_decisions.md D29).
-/

namespace Sys2Proof.Machine

/-- The pseudo-instructions of R88. -/
inductive Pseudo where
  /-- CRC_SEQ: §3 "for each input byte" from the preset. -/
  | crcSeq (bs : List Byte)
  /-- FRAME: `encode` of any bytes. -/
  | frame (bs : List Byte)
  /-- INVENTORY: template 0. -/
  | inventory
  /-- EPC_INVENTORY: template 1. -/
  | epcInventory
  /-- RESP: `decode` of a response; no bytes gives the empty response. -/
  | resp (bs : List Byte)
  deriving DecidableEq, Repr

/-- The expansions of R88. -/
def Pseudo.expand : Pseudo → List Instr
  | .crcSeq bs => .crcInit :: bs.map .crcByte
  | .frame bs => .frameClear :: (bs.map .framePush ++ [.frameSeal])
  | .inventory => [.frameBuild 0]
  | .epcInventory => [.frameBuild 1]
  | .resp bs => .respStart :: bs.map .respByte

/-- One statement (R87). A READ or WRITE names a register, kept as its byte offset. -/
inductive Statement where
  | command (i : Instr)
  | pseudo (p : Pseudo)
  | read (off : ByteOffset)
  | write (off : ByteOffset) (v : Word)
  deriving DecidableEq, Repr

/-- The accesses a host issues for a statement (R87, R88). -/
def Statement.events : Statement → List HostEvent
  | .command i => [commandWrite (encode i)]
  | .pseudo p => p.expand.map (fun i => commandWrite (encode i))
  | .read off => [.read off .word]
  | .write off v => [.write off .word v]

/-! The text of a statement. What R87 does not fix is in log entry 7. -/

/-- A word under construction is put before the words already found. -/
def flushToken (acc : List Char × List (List Char)) : List (List Char) :=
  if acc.1 = [] then acc.2 else acc.1 :: acc.2

/-- Read one character, from the right: blanks separate words and a comma is a word of its own. -/
def lexChar (c : Char) (acc : List Char × List (List Char)) : List Char × List (List Char) :=
  if c = ' ' ∨ c = '\t' then ([], flushToken acc)
  else if c = ',' then ([], [','] :: flushToken acc)
  else (c :: acc.1, acc.2)

/-- The words of a line; `;` starts a comment that runs to the end of the line (R87). -/
def tokens (line : List Char) : List (List Char) :=
  flushToken ((line.takeWhile (· ≠ ';')).foldr lexChar ([], []))

/-- The value of a digit: its place among the digits of R11. A digit in lower case counts as one (DESIGN CHOICE, log entry 7). -/
def digitValue (c : Char) : Option Nat := hexDigits.idxOf? c.toUpper

/-- The value of a string of digits read on from `n`. Leading zeros are read like any digit, so a decimal `arg` or FRAME index may
have them; R87 is silent on them (DESIGN CHOICE, log entry 7). -/
def digitsFrom (base : Nat) : Nat → List Char → Option Nat
  | n, [] => some n
  | n, c :: cs =>
    match digitValue c with
    | some d => if d < base then digitsFrom base (base * n + d) cs else none
    | none => none

/-- A numeral: `0x` and hex digits, or decimal digits. -/
def numeral : List Char → Option Nat
  | [] => none
  | '0' :: 'x' :: [] => none
  | '0' :: 'x' :: c :: cs => digitsFrom 16 0 (c :: cs)
  | c :: cs => digitsFrom 10 0 (c :: cs)

/-- A command's `arg` (R87): `0xHH` with exactly two hex digits, or a decimal 0 to 255, in which leading zeros are accepted, as in
`CRC_BYTE 007` (DESIGN CHOICE, log entry 7). -/
def byteArg (tok : List Char) : Option Byte :=
  match tok with
  | ['0', 'x', h, l] => (digitsFrom 16 0 [h, l]).map (BitVec.ofNat 8)
  | '0' :: 'x' :: _ => none
  | cs => (numeral cs).bind (fun n => if n < 256 then some (BitVec.ofNat 8 n) else none)

/-- A byte of a byte sequence: a bare pair of hex digits (00_scope.md R8). -/
def bareByte (tok : List Char) : Option Byte :=
  match tok with
  | [h, l] => (digitsFrom 16 0 [h, l]).map (BitVec.ofNat 8)
  | _ => none

/-- The value of a WRITE: a numeral, hex or decimal, of at most 32 bits, leading zeros accepted (DESIGN CHOICE, log entry 7). -/
def wordArg (tok : List Char) : Option Word :=
  (numeral tok).bind (fun n => if n < 2 ^ 32 then some (BitVec.ofNat 32 n) else none)

/-- The named registers of 10_state.md section 4, in the order of their word offsets 0 to 7. -/
def registerNames : List String :=
  ["PARAM", "CMD", "STATUS", "CRC", "ADDR", "FLEN", "RCOUNT", "RESULT"]

/-- A register's name: one of the eight, or FRAME[k] with k a decimal 0 to 63 (R87), in which leading zeros are accepted, as in
`FRAME[01]` (DESIGN CHOICE, log entry 7). -/
def registerOffset (tok : List Char) : Option ByteOffset :=
  match registerNames.findIdx? (fun name => name.toList == tok) with
  | some w => some (BitVec.ofNat 9 (4 * w))
  | none =>
    if tok.take 6 = "FRAME[".toList ∧ tok.getLast? = some ']' then
      (digitsFrom 10 0 ((tok.drop 6).dropLast)).bind
        (fun k => if (tok.drop 6).dropLast ≠ [] ∧ k < 64 then some (BitVec.ofNat 9 (0x100 + 4 * k)) else none)
    else none

/-- A command's statement: `arg` is present exactly when its row names an operand (R87). -/
def commandOf (r : Row) (args : List (List Char)) : Option Statement :=
  match args with
  | [] => if r.mask = 0xFFFFFFFF then some (.command (r.build 0)) else none
  | [a] => if r.mask = 0xFFFFFFFF then none else (byteArg a).map (fun b => .command (r.build b))
  | _ => none

/-- A pseudo-instruction's statement (R88); FRAME takes at most 254 bytes. -/
def pseudoOf (name : List Char) (args : List (List Char)) : Option Statement :=
  if name = "CRC_SEQ".toList then (args.mapM bareByte).map (fun bs => .pseudo (.crcSeq bs))
  else if name = "FRAME".toList then
    (args.mapM bareByte).bind (fun bs => if bs.length ≤ payloadMax fcb then some (.pseudo (.frame bs)) else none)
  else if name = "INVENTORY".toList ∧ args = [] then some (.pseudo .inventory)
  else if name = "EPC_INVENTORY".toList ∧ args = [] then some (.pseudo .epcInventory)
  else if name = "RESP".toList then (args.mapM bareByte).map (fun bs => .pseudo (.resp bs))
  else none

/-- A host access that is not a command (R87): READ NAME, or WRITE NAME, v. -/
def accessOf (name : List Char) (args : List (List Char)) : Option Statement :=
  match args with
  | [r] => if name = "READ".toList then (registerOffset r).map .read else none
  | [r, [','], v] =>
    if name = "WRITE".toList then (registerOffset r).bind (fun off => (wordArg v).map (.write off)) else none
  | _ => none

/-- The statement a line holds: none at all on an empty line, and `none` where the line is no statement of R87 or R88. -/
def assembleLine (line : List Char) : Option (List Statement) :=
  match tokens line with
  | [] => some []
  | name :: args =>
    match rows.find? (fun r => r.mnemonic.toList == name) with
    | some r => (commandOf r args).map (fun st => [st])
    | none => ((pseudoOf name args).or (accessOf name args)).map (fun st => [st])

/-- A program: one statement per line (R87), and the accesses a host issues for it. -/
def assemble (lines : List (List Char)) : Option (List HostEvent) :=
  (lines.mapM assembleLine).map (fun sts => sts.flatten.flatMap Statement.events)

end Sys2Proof.Machine
end

