-- ==== Sys2Proof/Safety.lean ====
section
/-!
DEFINITION. The terms the statements use: the invariant of every reachable state, sequences of commands, when a command fails,
and the source's own decode function.
-/

namespace Sys2Proof.Machine

/-! The invariant. -/

/-- 10_state.md R25: the frame fits, an open frame leaves room for its checksum, and a sealed frame is the encoding of its
payload. -/
abbrev FrameInv (s : State) : Prop :=
  s.fbuf.length ≤ 256 ∧
  (s.sealed = false → s.fbuf.length ≤ 254) ∧
  (s.sealed = true → 2 ≤ s.fbuf.length ∧ s.fbuf = encodeFrame fcb (s.fbuf.take (s.fbuf.length - 2)))

/-- 10_state.md R26, R28 to R30: the count stays within 512, `rlast` is 0 above the bytes accepted, a marker needs an accepted
byte, an overflow a full response, and without a marker none of the last bytes is one (42_match.md R153, R158). -/
abbrev ResponseInv (s : State) : Prop :=
  s.rcount.toNat ≤ 512 ∧
  (s.rcount.toNat < 3 → s.rlast.toNat < 2 ^ (8 * s.rcount.toNat)) ∧
  (s.matched = true → s.rcount ≠ 0) ∧
  (s.ovf = true → s.rcount.toNat = 512) ∧
  (s.matched = false → ∀ j < 3, byteAt s.rlast j ≠ 0xFB ∧ byteAt s.rlast j ≠ 0xFE)

/-- 93_implementation_defined.md I21: the codes 5 to 15 are never produced. -/
abbrev ErrInv (s : State) : Prop := s.err.toNat ≤ 4

/-- What holds of the block in every state a run reaches. -/
abbrev Inv (s : State) : Prop := FrameInv s ∧ ResponseInv s ∧ ErrInv s

/-! Commands, sequences and events. -/

/-- The word encodes no command (30_encoding.md R84). -/
def IsIllegal (w : Word) : Prop := ∃ why, decode w = .illegal why

/-- The only legal word with opcode `op` is `w0`, and it is the command `i` (a row of 30_encoding.md R82 with no ARG). -/
def SoleWord (op : BitVec 8) (w0 : Word) (i : Instr) : Prop :=
  decode w0 = .legal i ∧ ∀ w, w.extractLsb' 24 8 = op → w ≠ w0 → IsIllegal w

/-- The legal words with opcode `op` are `base + arg`, one per byte (a row of 30_encoding.md R82 with an ARG): a word whose RSV is
not 0 is illegal. -/
def ByteWords (op : BitVec 8) (base : Word) (i : Byte → Instr) : Prop :=
  (∀ d : Byte, decode (base + d.setWidth 32) = .legal (i d)) ∧
  ∀ w : Word, w.extractLsb' 24 8 = op → w.extractLsb' 8 16 ≠ 0 → IsIllegal w

/-- The commands of a list, one after the other. -/
def execAll : List Instr → State → Result
  | [], s => .next s
  | i :: is, s =>
    match exec i s with
    | .next t => execAll is t
    | .fault r => .fault r
    | .refused r => .refused r

/-- The host's writes of a list of commands to CMD. -/
def commandEvents (is : List Instr) : List HostEvent := is.map (fun i => commandWrite (encode i))

/-- The cause for which a command fails in a state, from the table of 60_exceptions.md R201 and the priority of R204. -/
def failure (i : Instr) (s : State) : Option ErrCode :=
  match i with
  | .framePush _ => if s.sealed then some .sealed else if s.fbuf.length = 254 then some .full else none
  | .frameSeal => if s.sealed then some .sealed else none
  | .frameBuild t => if 2 ≤ t.toNat then some .template else none
  | .nop => none
  | .crcInit => none
  | .crcByte _ => none
  | .setAddr _ => none
  | .frameClear => none
  | .respStart => none
  | .respByte _ => none
  | .clrErr => none
  | .softReset => none

/-- The commands that clear the error record (60_exceptions.md R205). -/
def ClearsErr (i : Instr) : Prop := i = .clrErr ∨ i = .softReset

/-- An event the block takes: the reset input, or an aligned word access (20_memory.md R51). -/
def Served (e : HostEvent) : Prop :=
  match e with
  | .read off size => off.toNat % 4 = 0 ∧ size = .word
  | .write off size _ => off.toNat % 4 = 0 ∧ size = .word
  | .reset => True

/-- What 20_memory.md R53's RegRead returns at a byte offset, its cases written out. -/
def windowValue (s : State) (off : ByteOffset) : Word :=
  if off = 0x000 then 0x8408FFFF
  else if off = 0x004 then 0x00000000
  else if off = 0x008 then statusWord s
  else if off = 0x00C then s.crc.setWidth 32
  else if off = 0x010 then s.addr.setWidth 32
  else if off = 0x014 then BitVec.ofNat 32 s.fbuf.length
  else if off = 0x018 then s.rcount.setWidth 32
  else if off = 0x01C then resultWord fcb s
  else if off.toNat < 0x100 then 0x00000000
  else frameWord s ((off.toNat - 0x100) / 4)

/-- A register a write does not change (20_memory.md R53): the write is taken, and only the host's side moves on. -/
def ReadOnlyAt (off : ByteOffset) : Prop :=
  ∀ (s : State) (v : Word) (rest : List HostEvent), s.pending = .write off .word v :: rest →
    step s = .next { s with pending := rest, reply := none }

/-- Two states agree on the block's nine fields (10_state.md R20). -/
def SameBlock (s t : State) : Prop :=
  s.crc = t.crc ∧ s.addr = t.addr ∧ s.fbuf = t.fbuf ∧ s.sealed = t.sealed ∧ s.rcount = t.rcount ∧
  s.rlast = t.rlast ∧ s.matched = t.matched ∧ s.ovf = t.ovf ∧ s.err = t.err

/-- Two states agree on the frame builder's fields (41_frame.md R120). -/
def SameFrame (s t : State) : Prop := s.addr = t.addr ∧ s.fbuf = t.fbuf ∧ s.sealed = t.sealed

/-- Two states agree on the matcher's fields (42_match.md R150). -/
def SameMatcher (s t : State) : Prop :=
  s.rcount = t.rcount ∧ s.rlast = t.rlast ∧ s.matched = t.matched ∧ s.ovf = t.ovf

/-! The source's decode. -/

/-- The source's ResponseOutcome (42_match.md R156, R163): the UID as uppercase hex text. -/
inductive SourceOutcome where
  | noResponse
  | cardNotDetected
  | uid (text : List Char)
  deriving DecidableEq, Repr

/-- The source's `decode(raw_bytes)` under the byte reading (42_match.md, introduction, R156): empty, then a marker anywhere, else
the hex of the last 3 bytes, or of whatever is available (R159). -/
def sourceDecode (bs : List Byte) : SourceOutcome :=
  if bs = [] then .noResponse
  else if 0xFB ∈ bs ∨ 0xFE ∈ bs then .cardNotDetected
  else .uid (hexstr (bs.drop (bs.length - 3)))

/-- The outcome a host reads in a RESULT word (42_match.md R156, R163): CLASS in bits 29:28, and for Uid its text. -/
def outcomeOfResult (r : Word) : Option SourceOutcome :=
  if r.extractLsb' 28 2 = 0 then some .noResponse
  else if r.extractLsb' 28 2 = 1 then some .cardNotDetected
  else if r.extractLsb' 28 2 = 2 then some (.uid (uidText r))
  else none

end Sys2Proof.Machine
end

