-- ==== Sys2Proof/Certificates/Slice0/Obligations.lean ====
section
/-!
DEFINITION. The statements for the provers, from the numbered rules of spec/. Numbers are written out here from the rules and not
taken from `fcb`, so that a wrong parameter makes a statement false.
-/

open Sys2Proof Sys2Proof.Machine

/-! ## Encoding -/

/-- 30_encoding.md R82, R83, R87: decoding is the exact inverse of encoding, in both directions, for every instruction and word. -/
def Obligations.DecodeInvertsEncode : Prop :=
  (∀ i : Instr, decode (encode i) = .legal i) ∧
  (∀ (w : Word) (i : Instr), decode w = .legal i → encode i = w)

/-- 30_encoding.md R82, R83: either exactly one row of the table selects a word and its command runs with ARG = w[7:0], or none does
and E_ILLEGAL is raised. -/
def Obligations.EveryWordSelectsOneRowOrIsIllegal : Prop :=
  ∀ w : Word,
    (∃ r ∈ rows, rows.filter (fun q => w &&& q.mask == q.pattern) = [r] ∧
      ∀ s : State, execute w s = exec (r.build (w.extractLsb' 0 8)) s) ∨
    (rows.filter (fun q => w &&& q.mask == q.pattern) = [] ∧ IsIllegal w ∧
      ∀ s : State, execute w s = .next (raiseErr .illegal s))

/-- 30_encoding.md R84: a word is illegal exactly by (a), (b) or (c), an illegal word raises E_ILLEGAL with no other effect, and 1287
words are legal. -/
def Obligations.IllegalWordsAreExactlyThreeKinds : Prop :=
  (∀ w : Word, IsIllegal w ↔
    (w.extractLsb' 24 8 ∉ ([0x00, 0x01, 0x02, 0x10, 0x11, 0x12, 0x13, 0x14, 0x20, 0x21, 0x30, 0x3F] : List (BitVec 8)) ∨
     w.extractLsb' 8 16 ≠ 0 ∨
     (w.extractLsb' 24 8 ∈ ([0x00, 0x01, 0x11, 0x13, 0x20, 0x30, 0x3F] : List (BitVec 8)) ∧ w.extractLsb' 0 8 ≠ 0))) ∧
  (∀ (w : Word) (s : State), IsIllegal w → execute w s = .next { s with err := if s.err = 0 then 1 else s.err }) ∧
  (∃ ws : List Word, ws.Nodup ∧ ws.length = 1287 ∧ ∀ w, w ∈ ws ↔ ¬ IsIllegal w)

/-- 30_encoding.md R86: every unassigned opcode is illegal. -/
def Obligations.UnassignedOpcodesAreIllegal : Prop :=
  ∀ w : Word,
    ((0x03 ≤ (w.extractLsb' 24 8).toNat ∧ (w.extractLsb' 24 8).toNat ≤ 0x0F) ∨
     (0x15 ≤ (w.extractLsb' 24 8).toNat ∧ (w.extractLsb' 24 8).toNat ≤ 0x1F) ∨
     (0x22 ≤ (w.extractLsb' 24 8).toNat ∧ (w.extractLsb' 24 8).toNat ≤ 0x2F) ∨
     (0x31 ≤ (w.extractLsb' 24 8).toNat ∧ (w.extractLsb' 24 8).toNat ≤ 0x3E) ∨
     0x40 ≤ (w.extractLsb' 24 8).toNat) →
    decode w = .illegal .unassignedOp ∧
    ∀ s : State, execute w s = .next { s with err := if s.err = 0 then 1 else s.err }

/-- 30_encoding.md R89: the example encodings, from the statement's text to the word and from the word to the command. -/
def Obligations.ExampleWordsDecode : Prop :=
  assemble ["NOP".toList, "CRC_INIT".toList, "CRC_BYTE 0x06".toList, "SET_ADDR 0x00".toList, "FRAME_PUSH 0xFF".toList,
      "FRAME_BUILD 0".toList, "RESP_BYTE 0xFB".toList, "SOFT_RESET".toList] =
    some [.write 0x004 .word 0x00000000, .write 0x004 .word 0x01000000, .write 0x004 .word 0x02000006,
      .write 0x004 .word 0x10000000, .write 0x004 .word 0x120000FF, .write 0x004 .word 0x14000000,
      .write 0x004 .word 0x210000FB, .write 0x004 .word 0x3F000000] ∧
  decode 0x00000000 = .legal .nop ∧ decode 0x01000000 = .legal .crcInit ∧
  decode 0x02000006 = .legal (.crcByte 0x06) ∧ decode 0x10000000 = .legal (.setAddr 0x00) ∧
  decode 0x120000FF = .legal (.framePush 0xFF) ∧ decode 0x14000000 = .legal (.frameBuild 0) ∧
  decode 0x210000FB = .legal (.respByte 0xFB) ∧ decode 0x3F000000 = .legal .softReset ∧
  ∀ s : State,
    execute 0x02010006 s = .next { s with err := if s.err = 0 then 1 else s.err } ∧
    execute 0x01000001 s = .next { s with err := if s.err = 0 then 1 else s.err } ∧
    execute 0x05000000 s = .next { s with err := if s.err = 0 then 1 else s.err }

/-! ## Commands: each statement gives the command's words and its whole next state -/

/-- 43_control.md R180. -/
def Obligations.NopChangesNothing : Prop :=
  SoleWord 0x00 0x00000000 .nop ∧ (∀ s : State, exec .nop s = .next s) ∧ (∀ s : State, execute 0 s = .next s)

/-- 40_crc.md R104. -/
def Obligations.CrcInitPresetsAccumulator : Prop :=
  SoleWord 0x01 0x01000000 .crcInit ∧
  (∀ s : State, exec .crcInit s = .next { s with crc := 0xFFFF }) ∧
  (∀ s : State, execAll [.crcInit, .crcInit] s = exec .crcInit s) ∧
  (∀ s : State, ∃ t, exec .frameSeal s = .next t ∧
    execAll [.crcInit, .frameSeal] s = .next { t with crc := 0xFFFF })

/-- 40_crc.md R100 and R105's pseudocode: the accumulator after the XOR and eight rounds; every other field is kept. -/
def Obligations.CrcByteRunsEightRounds : Prop :=
  ByteWords 0x02 0x02000000 .crcByte ∧
  (∀ (s : State) (d : Byte), exec (.crcByte d) s = .next { s with
    crc := (List.range 8).foldl
      (fun c _ => if c.getLsbD 0 then (c >>> 1) ^^^ 0x8408 else c >>> 1) (s.crc ^^^ d.setWidth 16) }) ∧
  (∀ (c : Crc) (b : Byte), crcStep fcb c b = (List.range 8).foldl
      (fun c _ => if c.getLsbD 0 then (c >>> 1) ^^^ 0x8408 else c >>> 1) (c ^^^ b.setWidth 16)) ∧
  crcStep fcb 0x0000 0x00 = 0x0000 ∧ crcStep fcb 0x0000 0x80 = 0x8408 ∧ crcStep fcb 0xFFFF 0x00 = 0x0F87 ∧
  crcStep fcb 0xFFFF 0xFF = 0x00FF ∧ crcStep fcb 0xFFFF 0x06 = 0x6AB1 ∧
  State.reset.crc = 0xFFFF

/-- 40_crc.md R100 against a corner case of R105: by R100's rounds the byte 0x00 keeps the accumulator at 0x0000 AND at 0xF80F, where
R105 says it changes every accumulator but 0x0000. The model follows R100 (log entry 8). -/
def Obligations.ZeroByteKeepsExactlyTwoAccumulators : Prop :=
  ∀ (c : Crc) (s : State), s.crc = c → ∃ t, exec (.crcByte 0x00) s = .next t ∧ (t.crc = c ↔ c = 0x0000 ∨ c = 0xF80F)

/-- 40_crc.md R108: the rounds of `crc_step(0xFFFF, 0x06)`. -/
def Obligations.CrcRoundTrace : Prop :=
  (0xFFFF : Crc) ^^^ zext 16 (0x06 : Byte) = 0xFFF9 ∧
  (List.range 9).map (fun n => crcRounds fcb n 0xFFF9) =
    [0xFFF9, 0xFBF4, 0x7DFA, 0x3EFD, 0x9B76, 0x4DBB, 0xA2D5, 0xD562, 0x6AB1] ∧
  (List.range 8).map (fun n => (crcRounds fcb n 0xFFF9).getLsbD 0) =
    [true, false, false, true, false, true, true, false] ∧
  crcStep fcb 0xFFFF 0x06 = 0x6AB1

/-- 41_frame.md R123. -/
def Obligations.SetAddrWritesOnlyAddr : Prop :=
  ByteWords 0x10 0x10000000 .setAddr ∧
  (∀ (s : State) (a : Byte), exec (.setAddr a) s = .next { s with addr := a }) ∧
  (∀ s : State, ∃ t, exec (.setAddr 0x00) s = .next t ∧ regRead 0x04 t = 0 ∧
    exec (.frameBuild 0) t = .next { t with fbuf := [0x06, 0x00, 0x01, 0x00, 0x06, 0xFA, 0x34], sealed := true })

/-- 41_frame.md R124; the reads of FLEN and of every FRAME word after it. -/
def Obligations.FrameClearEmptiesFrame : Prop :=
  SoleWord 0x11 0x11000000 .frameClear ∧
  (∀ s : State, exec .frameClear s = .next { s with fbuf := [], sealed := false } ∧
    regRead 0x05 { s with fbuf := [], sealed := false } = 0 ∧
    ∀ w : WordOffset, 64 ≤ w.toNat → regRead w { s with fbuf := [], sealed := false } = 0)

/-- 41_frame.md R126: sealed, then full, then the append. -/
def Obligations.FramePushAppendsOrFails : Prop :=
  ByteWords 0x12 0x12000000 .framePush ∧
  (∀ (s : State) (d : Byte), s.sealed = true →
    exec (.framePush d) s = .next { s with err := if s.err = 0 then 3 else s.err }) ∧
  (∀ (s : State) (d : Byte), s.sealed = false → s.fbuf.length = 254 →
    exec (.framePush d) s = .next { s with err := if s.err = 0 then 4 else s.err }) ∧
  (∀ (s : State) (d : Byte), s.sealed = false → s.fbuf.length ≠ 254 →
    exec (.framePush d) s = .next { s with fbuf := s.fbuf ++ [d] })

/-- 41_frame.md R127: the checksum of the frame's bytes is appended low byte first, or E_SEALED is recorded. -/
def Obligations.FrameSealAppendsChecksum : Prop :=
  SoleWord 0x13 0x13000000 .frameSeal ∧
  (∀ s : State, s.sealed = true →
    exec .frameSeal s = .next { s with err := if s.err = 0 then 3 else s.err }) ∧
  (∀ s : State, s.sealed = false → exec .frameSeal s = .next { s with
    fbuf := s.fbuf ++ [(crc16 fcb s.fbuf).extractLsb' 0 8, (crc16 fcb s.fbuf).extractLsb' 8 8], sealed := true }) ∧
  (∀ s t : State, Inv s → s.sealed = false → exec .frameSeal s = .next t → t.fbuf.length ≤ 256) ∧
  (∀ s : State, s.sealed = false → s.fbuf = [] →
    exec .frameSeal s = .next { s with fbuf := [0xFF, 0xFF], sealed := true }) ∧
  (∀ s : State, s.sealed = false → s.fbuf = [0x04, 0xFF, 0x0F] →
    exec .frameSeal s = .next { s with fbuf := [0x04, 0xFF, 0x0F, 0x65, 0x5D], sealed := true }) ∧
  (∀ s : State, s.sealed = false → ∀ cs : List Byte,
    execAll (cs.map .crcByte ++ [.frameSeal]) s =
      execAll (.frameSeal :: cs.map .crcByte) s)

/-- 41_frame.md R121, R128: each of the two templates with the address in its slot, and E_TEMPLATE for ids 2 to 255. -/
def Obligations.FrameBuildBuildsTemplates : Prop :=
  ByteWords 0x14 0x14000000 .frameBuild ∧
  (∀ s : State, exec (.frameBuild 0) s = .next { s with
    fbuf := [0x06, s.addr, 0x01, 0x00, 0x06,
      (crc16 fcb [0x06, s.addr, 0x01, 0x00, 0x06]).extractLsb' 0 8,
      (crc16 fcb [0x06, s.addr, 0x01, 0x00, 0x06]).extractLsb' 8 8], sealed := true }) ∧
  (∀ s : State, exec (.frameBuild 1) s = .next { s with
    fbuf := [0x04, s.addr, 0x0F,
      (crc16 fcb [0x04, s.addr, 0x0F]).extractLsb' 0 8,
      (crc16 fcb [0x04, s.addr, 0x0F]).extractLsb' 8 8], sealed := true }) ∧
  (∀ (s : State) (t : Byte), 2 ≤ t.toNat →
    exec (.frameBuild t) s = .next { s with err := if s.err = 0 then 2 else s.err }) ∧
  (∀ s : State, s.addr = 0xFF → ∃ t, exec (.frameBuild 0) s = .next t ∧
    t.fbuf = [0x06, 0xFF, 0x01, 0x00, 0x06, 0x28, 0xF1] ∧ t.sealed = true ∧
    regRead 0x05 t = 7 ∧ regRead 0x40 t = 0x0001FF06 ∧ regRead 0x41 t = 0x00F12806)

/-- 30_encoding.md R85: every template id is legal in the encoding, and ids 2 to 255 raise E_TEMPLATE when run. -/
def Obligations.ReservedTemplateIdsDecodeAndFail : Prop :=
  (∀ t : Byte, decode (0x14000000 + t.setWidth 32) = .legal (.frameBuild t)) ∧
  (∀ (s : State) (t : Byte), 2 ≤ t.toNat →
    execute (0x14000000 + t.setWidth 32) s = .next { s with err := if s.err = 0 then 2 else s.err }) ∧
  (∀ (s : State) (t : Byte), t.toNat < 2 → ∃ u, execute (0x14000000 + t.setWidth 32) s = .next u ∧ u.err = s.err)

/-- 42_match.md R151; RESULT reads 0 right after it. -/
def Obligations.RespStartClearsMatcher : Prop :=
  SoleWord 0x20 0x20000000 .respStart ∧
  (∀ s : State, ∃ t, exec .respStart s = .next t ∧
    t = { s with rcount := 0, rlast := 0, matched := false, ovf := false } ∧ regRead 0x07 t = 0)

/-- 42_match.md R152, R153: a byte after 512 is dropped and sets `ovf`; any other is tested, shifted in and counted. The third
clause is the pseudocode under `MATCH_ALIGN = NIBBLE`. -/
def Obligations.RespByteAcceptsOrDrops : Prop :=
  ByteWords 0x21 0x21000000 .respByte ∧
  (∀ (s : State) (d : Byte), s.rcount = 512 → exec (.respByte d) s = .next { s with ovf := true }) ∧
  (∀ (s : State) (d : Byte), s.rcount ≠ 512 → exec (.respByte d) s = .next { s with
    matched := (s.matched || d == 0xFB || d == 0xFE), rlast := (s.rlast <<< 8) ||| d.setWidth 24,
    rcount := s.rcount + 1 }) ∧
  (∀ (s : State) (d : Byte), s.rcount = 512 → acceptByte fcbNibble d s = { s with ovf := true }) ∧
  (∀ (s : State) (d : Byte), s.rcount ≠ 512 → acceptByte fcbNibble d s = { s with
    matched := (s.matched || d == 0xFB || d == 0xFE ||
      (decide (1 ≤ s.rcount.toNat) && s.rlast.extractLsb' 0 4 == 0xF &&
        (d.extractLsb' 4 4 == 0xB || d.extractLsb' 4 4 == 0xE))),
    rlast := (s.rlast <<< 8) ||| d.setWidth 24,
    rcount := s.rcount + 1 }) ∧
  (∀ s : State, ∃ t, execAll [.respStart, .respByte 0x11, .respByte 0x22, .respByte 0x33] s = .next t ∧
    t.rcount = 3 ∧ regRead 0x07 t = 0x23112233)

/-- 43_control.md R181; after it a failing command records its own code, and without it (or a reset) the old code stays. -/
def Obligations.ClrErrClearsOnlyErr : Prop :=
  SoleWord 0x30 0x30000000 .clrErr ∧
  (∀ s : State, exec .clrErr s = .next { s with err := 0 }) ∧
  (∀ (i : Instr) (s : State) (e : ErrCode), failure i s = some e →
    execAll [.clrErr, i] s = .next { s with err := e.code }) ∧
  (∀ (i : Instr) (s : State), s.err ≠ 0 → ¬ ClearsErr i → ∃ t, exec i s = .next t ∧ t.err = s.err)

/-- 43_control.md R182: all nine fields; twice is as once; the same as the reset input (70_reset_and_hazards.md R220). -/
def Obligations.SoftResetRestoresResetState : Prop :=
  SoleWord 0x3F 0x3F000000 .softReset ∧
  (∀ s : State, exec .softReset s = .next { s with
    crc := 0xFFFF, addr := 0xFF, fbuf := [], sealed := false, rcount := 0, rlast := 0, matched := false, ovf := false, err := 0 }) ∧
  (∀ s : State, execAll [.softReset, .softReset] s = exec .softReset s) ∧
  (∀ (s : State) (rest : List HostEvent), step { s with pending := .reset :: rest } =
    step { s with pending := .write 0x004 .word 0x3F000000 :: rest })

/-- 43_control.md R183: an illegal word written to CMD records E_ILLEGAL if nothing is recorded, and changes nothing else. -/
def Obligations.IllegalWordRecordsOnlyError : Prop :=
  (∀ (s : State) (w : Word) (rest : List HostEvent), s.pending = .write 0x004 .word w :: rest → IsIllegal w →
    step s = .next { s with err := if s.err = 0 then 1 else s.err, pending := rest, reply := none }) ∧
  (∃ ws : List Word, ws.Nodup ∧ ws.length = 1287 ∧ ∀ w, w ∈ ws ↔ ¬ IsIllegal w) ∧
  (∀ w : Word, IsIllegal w ↔ (w ≠ 0x00000000 ∧ w ≠ 0x01000000 ∧ w ≠ 0x11000000 ∧ w ≠ 0x13000000 ∧
    w ≠ 0x20000000 ∧ w ≠ 0x30000000 ∧ w ≠ 0x3F000000 ∧ ∀ d : Byte,
    w ≠ 0x02000000 + d.setWidth 32 ∧ w ≠ 0x10000000 + d.setWidth 32 ∧ w ≠ 0x12000000 + d.setWidth 32 ∧
    w ≠ 0x14000000 + d.setWidth 32 ∧ w ≠ 0x21000000 + d.setWidth 32))

/-! ## Errors -/

/-- 60_exceptions.md R201, R203: a command with a cause of failure, or an illegal word, records its code if none is recorded and
changes nothing else; a command with none completes and records nothing. -/
def Obligations.FailuresArePrecise : Prop :=
  (∀ (i : Instr) (s : State) (e : ErrCode), failure i s = some e →
    exec i s = .next { s with err := if s.err = 0 then e.code else s.err }) ∧
  (∀ (w : Word) (s : State), IsIllegal w → execute w s = .next { s with err := if s.err = 0 then 1 else s.err }) ∧
  (∀ (i : Instr) (s : State), failure i s = none → ¬ ClearsErr i → ∃ t, exec i s = .next t ∧ t.err = s.err) ∧
  (∀ (i : Instr) (s : State), ClearsErr i → failure i s = none ∧ ∃ t, exec i s = .next t ∧ t.err = 0) ∧
  ErrCode.illegal.code = 1 ∧ ErrCode.template.code = 2 ∧ ErrCode.sealed.code = 3 ∧ ErrCode.full.code = 4

/-- 60_exceptions.md R202: the first failure is recorded and no other field changes, and over every run of events with no CLR_ERR,
SOFT_RESET or reset input, failing or not, the recorded code stays. -/
def Obligations.FirstErrorCodeIsKeptUntilCleared : Prop :=
  (∀ (c : ErrCode) (s : State),
    raiseErr c s = { s with err := if s.err = 0 then c.code else s.err }) ∧
  (∀ (i : Instr) (s : State) (e : ErrCode), failure i s = some e → exec i s = .next (raiseErr e s)) ∧
  (∀ (w : Word) (s : State), IsIllegal w → execute w s = .next (raiseErr .illegal s)) ∧
  (∀ (es rest : List HostEvent) (s : State), s.pending = es ++ rest → s.err ≠ 0 →
    (∀ e ∈ es, Served e ∧ e ≠ .reset ∧ e ≠ .write 0x004 .word 0x30000000 ∧ e ≠ .write 0x004 .word 0x3F000000) →
    ∃ t, core.run es.length s = .next t ∧ t.err = s.err ∧ t.pending = rest)

/-- 60_exceptions.md R205: CLR_ERR, SOFT_RESET and the reset input set the record to 0, no other event changes a recorded code, and
RESP_START, FRAME_CLEAR and FRAME_BUILD 0 and 1 leave it as it was (a reserved id of FRAME_BUILD records one when none is, R202). -/
def Obligations.OnlyClearingEventsClearError : Prop :=
  (∀ (s : State) (e : HostEvent) (rest : List HostEvent), s.pending = e :: rest →
    (e = .reset ∨ e = .write 0x004 .word 0x30000000 ∨ e = .write 0x004 .word 0x3F000000) →
    ∃ t, step s = .next t ∧ t.err = 0) ∧
  (∀ (s t : State) (e : HostEvent) (rest : List HostEvent), s.pending = e :: rest → s.err ≠ 0 →
    e ≠ .reset → e ≠ .write 0x004 .word 0x30000000 → e ≠ .write 0x004 .word 0x3F000000 →
    step s = .next t → t.err = s.err) ∧
  (∀ s : State, ∃ t u, exec .respStart s = .next t ∧ t.err = s.err ∧ exec .frameClear s = .next u ∧ u.err = s.err) ∧
  (∀ (s : State) (n : Byte), n.toNat < 2 → ∃ v, exec (.frameBuild n) s = .next v ∧ v.err = s.err)

/-! ## The step and the register interface -/

/-- A write of a legal word to CMD runs the decoded command, on the state in which that event is taken off the host's list
(30_encoding.md R83; the list, the returned value and the event in the place of a fetch are the model's: log entries 1 and 2). -/
def Obligations.StepRunsDecodedCommand : Prop :=
  ∀ (s : State) (w : Word) (rest : List HostEvent) (i : Instr),
    s.pending = .write 0x004 .word w :: rest → decode w = .legal i →
    step s = exec i { s with pending := rest, reply := none }

/-- 20_memory.md R52, R53: the value read at each offset with no change to the block, and the effect of a write at each offset. -/
def Obligations.RegisterWindowReadsAndWrites : Prop :=
  (∀ (s : State) (off : ByteOffset) (rest : List HostEvent), off.toNat % 4 = 0 → s.pending = .read off .word :: rest →
    step s = .next { s with pending := rest, reply := some (windowValue s off) }) ∧
  (∀ (s : State) (off : ByteOffset) (rest : List HostEvent), off.toNat % 4 = 0 →
    s.pending = .read off .word :: .read off .word :: rest →
    ∃ t u, step s = .next t ∧ step t = .next u ∧ u.reply = t.reply ∧ SameBlock s t ∧ SameBlock t u) ∧
  (∀ (s : State) (v : Word) (rest : List HostEvent), s.pending = .write 0x004 .word v :: rest →
    step s = execute v { s with pending := rest, reply := none }) ∧
  (∀ (s : State) (off : ByteOffset) (v : Word) (rest : List HostEvent), off.toNat % 4 = 0 → off ≠ 0x004 →
    s.pending = .write off .word v :: rest → step s = .next { s with pending := rest, reply := none }) ∧
  (∀ (s : State) (d : Byte) (rest : List HostEvent), s.rcount.toNat ≤ 510 →
    s.pending = commandEvents [.respByte d, .respByte d] ++ rest →
    ∃ t, core.run 2 s = .next t ∧ t.rcount = s.rcount + 2 ∧ byteAt t.rlast 0 = d ∧ byteAt t.rlast 1 = d)

/-- 20_memory.md R51: an access is refused exactly when it is misaligned or not a word. -/
def Obligations.InexpressibleAccessIsRefused : Prop :=
  (∀ (s : State) (off : ByteOffset) (size : AccessSize) (rest : List HostEvent),
    s.pending = .read off size :: rest → (off.toNat % 4 ≠ 0 ∨ size ≠ .word) → step s = .refused .inexpressibleAccess) ∧
  (∀ (s : State) (off : ByteOffset) (size : AccessSize) (v : Word) (rest : List HostEvent),
    s.pending = .write off size v :: rest → (off.toNat % 4 ≠ 0 ∨ size ≠ .word) → step s = .refused .inexpressibleAccess) ∧
  (∀ (s : State) (e : HostEvent) (rest : List HostEvent), s.pending = e :: rest → Served e →
    ∃ t, step s = .next t ∧ t.pending = rest)

/-- 60_exceptions.md R213: with no event the block holds its state. That it is a step is the model's choice (log entry 3). -/
def Obligations.BlockHoldsStateWithoutEvent : Prop :=
  ∀ (n : Nat) (s : State), s.pending = [] → core.run n s = .next s

/-- 60_exceptions.md R200, R212: every aligned word access is served, whatever the state, so a host's whole list is. -/
def Obligations.EveryServedEventListCompletes : Prop :=
  ∀ s : State, (∀ e ∈ s.pending, Served e) → ∃ t, core.run s.pending.length s = .next t ∧ t.pending = []

/-- 20_memory.md R58: the host's writes of a list of commands run exactly those commands, in order; the rest of the list is left
(the list is the model's: log entry 1). -/
def Obligations.HostWritesRunTheirCommands : Prop :=
  ∀ (i : Instr) (is : List Instr) (rest : List HostEvent) (s : State),
    s.pending = commandEvents (i :: is) ++ rest →
    core.run (is.length + 1) s = execAll (i :: is) { s with pending := rest, reply := none }

/-- 10_state.md R35: a write to CMD runs its word, a read of CMD returns 0, and a host access that is not a write to CMD leaves the
block as it is. -/
def Obligations.OnlyCmdWritesChangeBlock : Prop :=
  (∀ (s : State) (w : Word) (rest : List HostEvent), s.pending = .write 0x004 .word w :: rest →
    step s = execute w { s with pending := rest, reply := none }) ∧
  (∀ (s : State) (rest : List HostEvent), s.pending = .read 0x004 .word :: rest →
    step s = .next { s with pending := rest, reply := some 0x00000000 }) ∧
  (∀ (s : State) (e : HostEvent) (rest : List HostEvent), s.pending = e :: rest → Served e →
    e ≠ .reset → (∀ w, e ≠ .write 0x004 .word w) → ∃ t, step s = .next t ∧ SameBlock s t ∧ t.pending = rest)

/-- 10_state.md R36: the bits of STATUS. -/
def Obligations.StatusBits : Prop :=
  ReadOnlyAt 0x008 ∧ ∀ s : State,
    (regRead 0x02 s).extractLsb' 0 4 = s.err ∧ (regRead 0x02 s).getLsbD 4 = s.sealed ∧
    (regRead 0x02 s).getLsbD 5 = s.ovf ∧ (regRead 0x02 s).getLsbD 6 = s.matched ∧
    (regRead 0x02 s).extractLsb' 7 25 = 0

/-- 10_state.md R41, 42_match.md R154: the fields of RESULT. -/
def Obligations.ResultFields : Prop :=
  ReadOnlyAt 0x01C ∧ ∀ s : State,
    (regRead 0x07 s).extractLsb' 0 24 = s.rlast ∧
    ((regRead 0x07 s).extractLsb' 24 2).toNat = min s.rcount.toNat 3 ∧
    (regRead 0x07 s).extractLsb' 26 2 = 0 ∧
    (regRead 0x07 s).extractLsb' 28 2 = (if s.rcount = 0 then 0 else if s.matched then 1 else 2) ∧
    (regRead 0x07 s).extractLsb' 28 2 ≠ 3 ∧
    (regRead 0x07 s).extractLsb' 30 2 = 0

/-- 10_state.md R42, 20_memory.md R55 (c): byte i of the window is the frame's byte i, 0x00 at or beyond FLEN. -/
def Obligations.FrameWindowBytes : Prop :=
  (∀ off : ByteOffset, 0x100 ≤ off.toNat → off.toNat % 4 = 0 → ReadOnlyAt off) ∧
  ∀ (s : State) (k : Nat), k < 64 → ∀ j < 4,
    (regRead (BitVec.ofNat 7 (64 + k)) s).extractLsb' (8 * j) 8 =
      if h : 4 * k + j < s.fbuf.length then s.fbuf[4 * k + j] else 0x00

/-- 10_state.md R34, R37 to R40, R43: the constant, the plain registers and the reserved offsets; FLEN and RCOUNT stay in their
fields in every state with the invariant. -/
def Obligations.PlainRegisters : Prop :=
  (∀ off : ByteOffset, off.toNat % 4 = 0 → off ≠ 0x004 → ReadOnlyAt off) ∧
  (∀ s : State, regRead 0x00 s = 0x8408FFFF ∧
    (regRead 0x03 s).extractLsb' 0 16 = s.crc ∧ (regRead 0x03 s).extractLsb' 16 16 = 0 ∧
    (regRead 0x04 s).extractLsb' 0 8 = s.addr ∧ (regRead 0x04 s).extractLsb' 8 24 = 0 ∧
    (regRead 0x06 s).extractLsb' 0 10 = s.rcount ∧ (regRead 0x06 s).extractLsb' 10 22 = 0 ∧
    ∀ w : WordOffset, 8 ≤ w.toNat → w.toNat < 64 → regRead w s = 0x00000000) ∧
  (∀ s t : State, Inv s → step s = .next t →
    (regRead 0x05 t).toNat = t.fbuf.length ∧ (regRead 0x05 t).toNat ≤ 256 ∧ (regRead 0x06 t).toNat ≤ 512) ∧
  (∀ (s : State), s.fbuf.length ≤ 254 → s.sealed = false →
    ∃ t, exec .frameSeal s = .next t ∧ regRead 0x05 t = regRead 0x05 s + 2)

/-- 10_state.md R32: every field is recovered from reads, so two states that read alike have the same block. -/
def Obligations.NoHiddenState : Prop :=
  (∀ s : State, s.fbuf.length ≤ 256 →
    s.crc = (regRead 0x03 s).extractLsb' 0 16 ∧ s.addr = (regRead 0x04 s).extractLsb' 0 8 ∧
    s.fbuf.length = (regRead 0x05 s).toNat ∧
    (∀ n (h : n < s.fbuf.length),
      s.fbuf[n] = (regRead (BitVec.ofNat 7 (64 + n / 4)) s).extractLsb' (8 * (n % 4)) 8) ∧
    s.sealed = (regRead 0x02 s).getLsbD 4 ∧ s.ovf = (regRead 0x02 s).getLsbD 5 ∧
    s.matched = (regRead 0x02 s).getLsbD 6 ∧ s.err = (regRead 0x02 s).extractLsb' 0 4 ∧
    s.rcount = (regRead 0x06 s).extractLsb' 0 10 ∧ s.rlast = (regRead 0x07 s).extractLsb' 0 24) ∧
  (∀ s t : State, s.fbuf.length ≤ 256 → t.fbuf.length ≤ 256 → (∀ w, regRead w s = regRead w t) → SameBlock s t)

/-! ## Reset and the invariant -/

/-- 10_state.md R45: the reset values and the register reads after reset. -/
def Obligations.ResetValuesAndReads : Prop :=
  State.reset.crc = 0xFFFF ∧ State.reset.addr = 0xFF ∧ State.reset.fbuf = [] ∧ State.reset.sealed = false ∧
  State.reset.rcount = 0 ∧ State.reset.rlast = 0 ∧ State.reset.matched = false ∧ State.reset.ovf = false ∧
  State.reset.err = 0 ∧
  (∀ (s : State) (rest : List HostEvent), s.pending = .reset :: rest → ∃ t, step s = .next t ∧ SameBlock t State.reset ∧
    t.pending = rest) ∧
  (∀ s : State, ∃ t, exec .softReset s = .next t ∧ SameBlock t State.reset) ∧
  (∀ s : State, SameBlock s State.reset →
    regRead 0x00 s = 0x8408FFFF ∧ regRead 0x02 s = 0 ∧ regRead 0x03 s = 0x0000FFFF ∧ regRead 0x04 s = 0x000000FF ∧
    regRead 0x05 s = 0 ∧ regRead 0x06 s = 0 ∧ regRead 0x07 s = 0 ∧ ∀ w : WordOffset, 64 ≤ w.toNat → regRead w s = 0)

/-- The invariant holds after reset. -/
def Obligations.ResetSatisfiesInvariant : Prop := Inv State.reset

/-- 10_state.md R25, R26, R28, 93_implementation_defined.md I21: every step, from any state with the invariant, keeps it. -/
def Obligations.EveryStepKeepsInvariant : Prop := ∀ s t : State, Inv s → step s = .next t → Inv t

/-! ## The CRC unit -/

/-- 40_crc.md R101, R102: CRC_SEQ leaves `crc16` of its bytes in the accumulator and changes nothing else. -/
def Obligations.CrcSequenceComputesCrc16 : Prop :=
  (∀ (bs : List Byte) (s : State), execAll (Pseudo.crcSeq bs).expand s = .next { s with crc := crc16 fcb bs }) ∧
  crc16 fcb [] = 0xFFFF ∧
  (∀ (bs : List Byte) (b : Byte), crc16 fcb (bs ++ [b]) = crcStep fcb (crc16 fcb bs) b)

/-- 40_crc.md R106: the residue. Feeding a frame with its own checksum bytes leaves the accumulator 0. -/
def Obligations.ChecksumResidueIsZero : Prop :=
  (∀ bs : List Byte, crc16 fcb (bs ++ [(crc16 fcb bs).extractLsb' 0 8, (crc16 fcb bs).extractLsb' 8 8]) = 0) ∧
  (∀ (bs : List Byte) (s : State), execAll (Pseudo.crcSeq (encodeFrame fcb bs)).expand s = .next { s with crc := 0 })

/-- 40_crc.md R109 (a): for each byte, `crc_step` permutes the accumulator's values, so every 16-bit result is reachable. -/
def Obligations.CrcStepIsPermutation : Prop :=
  ∀ b : Byte, Function.Bijective (fun c : Crc => crcStep fcb c b)

/-! ## The frame builder -/

/-- 30_encoding.md R88, 41_frame.md R122: the FRAME sequence, for at most 254 bytes, builds the sealed encoding from any state. -/
def Obligations.FrameSequenceBuildsEncoding : Prop :=
  ∀ (bs : List Byte) (s : State), bs.length ≤ 254 →
    execAll (Pseudo.frame bs).expand s = .next { s with
      fbuf := bs ++ [(crc16 fcb bs).extractLsb' 0 8, (crc16 fcb bs).extractLsb' 8 8], sealed := true }

/-- 41_frame.md R126, 60_exceptions.md R202: of more than 254 pushes the first 254 are kept and E_FULL is recorded. -/
def Obligations.OverlongFrameKeepsFirst254Bytes : Prop :=
  ∀ (bs : List Byte) (s : State), 254 < bs.length →
    execAll (.frameClear :: bs.map .framePush) s = .next { s with
      fbuf := bs.take 254, sealed := false, err := if s.err = 0 then 4 else s.err }

/-- 41_frame.md R129: FRAME_BUILD leaves the state that clearing, pushing the template's bytes and sealing leave. -/
def Obligations.FrameBuildEqualsPushSequence : Prop :=
  ∀ s : State,
    exec (.frameBuild 0) s = execAll (.frameClear :: ([0x06, s.addr, 0x01, 0x00, 0x06].map .framePush ++ [.frameSeal])) s ∧
    exec (.frameBuild 1) s = execAll (.frameClear :: ([0x04, s.addr, 0x0F].map .framePush ++ [.frameSeal])) s ∧
    ∃ t u, exec (.frameBuild 0) s = .next t ∧ exec (.frameBuild 1) s = .next u ∧ t.err = s.err ∧ u.err = s.err

/-- 41_frame.md R130: the address is bound when a frame is built. -/
def Obligations.AddressIsBoundAtBuild : Prop :=
  ∀ (s : State) (a : Byte) (t : Byte), t.toNat < 2 →
    ∃ u v, exec (.frameBuild t) s = .next u ∧ execAll [.frameBuild t, .setAddr a] s = .next { u with addr := a } ∧
      execAll [.frameBuild t, .setAddr a, .frameBuild t] s = .next v ∧ v.addr = a ∧ v.sealed = true ∧
      v.fbuf = encodeFrame fcb (if t = 0 then [0x06, a, 0x01, 0x00, 0x06] else [0x04, a, 0x0F])

/-- 41_frame.md R131: the four frames of the table. -/
def Obligations.TemplateFramesOfTable : Prop :=
  ∀ s : State,
    (∃ t, execAll [.setAddr 0xFF, .frameBuild 0] s = .next t ∧ t.fbuf = [0x06, 0xFF, 0x01, 0x00, 0x06, 0x28, 0xF1]) ∧
    (∃ t, execAll [.setAddr 0xFF, .frameBuild 1] s = .next t ∧ t.fbuf = [0x04, 0xFF, 0x0F, 0x65, 0x5D]) ∧
    (∃ t, execAll [.setAddr 0x00, .frameBuild 0] s = .next t ∧ t.fbuf = [0x06, 0x00, 0x01, 0x00, 0x06, 0xFA, 0x34]) ∧
    (∃ t, execAll [.setAddr 0x00, .frameBuild 1] s = .next t ∧ t.fbuf = [0x04, 0x00, 0x0F, 0xA5, 0xA2]) ∧
    crc16 fcb [0x06, 0xFF, 0x01, 0x00, 0x06] = 0xF128 ∧ crc16 fcb [0x04, 0xFF, 0x0F] = 0x5D65 ∧
    crc16 fcb [0x06, 0x00, 0x01, 0x00, 0x06] = 0x34FA ∧ crc16 fcb [0x04, 0x00, 0x0F] = 0xA2A5

/-! ## The matcher -/

/-- 42_match.md R156: for every response of at most 512 bytes, the outcome the host reads in RESULT after the RESP sequence is the
source's decode of the response, its UID text included. -/
def Obligations.ResponseOutcomeAgreesWithSourceDecode : Prop :=
  ∀ (bs : List Byte) (s : State), bs.length ≤ 512 →
    ∃ t, execAll (Pseudo.resp bs).expand s = .next t ∧
      outcomeOfResult (regRead 0x07 t) = some (sourceDecode bs) ∧
      ((regRead 0x07 t).extractLsb' 24 2).toNat = min bs.length 3 ∧
      (∀ j < min bs.length 3, some ((regRead 0x07 t).extractLsb' (8 * j) 8) = bs.reverse[j]?) ∧
      t = { s with rcount := BitVec.ofNat 10 bs.length, rlast := t.rlast, matched := t.matched, ovf := false }

/-- 42_match.md R157: under `MATCH_ALIGN = NIBBLE`, `match` is 1 exactly when the response's hex text holds "FB" or "FE" at any
offset; equally, when it has a marker byte or a byte ending in F before a byte starting with B or E. -/
def Obligations.NibbleAlignmentIsSubstringTest : Prop :=
  (∀ (bs : List Byte) (s : State), bs.length ≤ 512 →
    let t := bs.foldl (fun u d => acceptByte fcbNibble d u) (clearResponse s)
    (t.matched = true ↔ (['F', 'B'] <:+: hexstr bs ∨ ['F', 'E'] <:+: hexstr bs)) ∧
    (t.matched = true ↔ ((0xFB ∈ bs ∨ 0xFE ∈ bs) ∨
      ∃ n p d, bs[n]? = some p ∧ bs[n + 1]? = some d ∧ p.extractLsb' 0 4 = 0xF ∧
        (d.extractLsb' 4 4 = 0xB ∨ d.extractLsb' 4 4 = 0xE)))) ∧
  (∀ s : State,
    classify (acceptByte fcbNibble 0xB0 (acceptByte fcbNibble 0x0F (clearResponse s))) = .cardNotDetected ∧
    classify (acceptByte fcb 0xB0 (acceptByte fcb 0x0F (clearResponse s))) = .uid ∧
    (acceptByte fcb 0xB0 (acceptByte fcb 0x0F (clearResponse s))).rlast = 0x000FB0)

/-- 42_match.md R161: of a response of more than 512 bytes the first 512 alone are classified, and OVF is set. -/
def Obligations.OverlongResponseKeepsFirst512Bytes : Prop :=
  ∀ (bs : List Byte) (s : State), 512 < bs.length →
    ∃ t u, execAll (Pseudo.resp (bs.take 512)).expand s = .next t ∧ t.ovf = false ∧ t.rcount = 512 ∧
      execAll (Pseudo.resp bs).expand s = .next u ∧ u = { t with ovf := true } ∧ regRead 0x07 u = regRead 0x07 t

/-- 42_match.md R158: a marker anywhere gives CardNotDetected, and no UID reported as Uid holds a marker byte. -/
def Obligations.MarkerAnywhereExcludesUid : Prop :=
  (∀ (bs : List Byte) (s : State), bs.length ≤ 512 → (0xFB ∈ bs ∨ 0xFE ∈ bs) →
    ∃ t, execAll (Pseudo.resp bs).expand s = .next t ∧ (regRead 0x07 t).extractLsb' 28 2 = 1) ∧
  (∀ s t : State, Inv s → step s = .next t → (regRead 0x07 t).extractLsb' 28 2 = 2 →
    ∀ j < 3, (regRead 0x07 t).extractLsb' (8 * j) 8 ≠ 0xFB ∧ (regRead 0x07 t).extractLsb' (8 * j) 8 ≠ 0xFE) ∧
  (∀ s : State, ∃ t, execAll (Pseudo.resp [0x11, 0xFB, 0x33]).expand s = .next t ∧ regRead 0x07 t = 0x1311FB33)

/-- 42_match.md R155: UID is zero above its UID_LEN bytes, in every state a step from the invariant reaches. -/
def Obligations.UidIsZeroAboveItsLength : Prop :=
  ∀ s t : State, Inv s → step s = .next t →
    (regRead 0x07 t).extractLsb' 0 24 >>> (8 * ((regRead 0x07 t).extractLsb' 24 2).toNat) = 0

/-- 42_match.md R162: the outcome changes only by a RESP_BYTE, a RESP_START, a SOFT_RESET or the reset input; and once CLASS is 1
it stays 1 over every other command. -/
def Obligations.ResultIsLiveAndMarkerSticks : Prop :=
  (∀ (i : Instr) (s : State), (∀ d, i ≠ .respByte d) → i ≠ .respStart → i ≠ .softReset →
    ∃ t, exec i s = .next t ∧ regRead 0x07 t = regRead 0x07 s ∧ t.matched = s.matched) ∧
  (∀ (is : List Instr) (s : State), Inv s → .respStart ∉ is → .softReset ∉ is →
    (regRead 0x07 s).extractLsb' 28 2 = 1 →
    ∃ t, execAll is s = .next t ∧ (regRead 0x07 t).extractLsb' 28 2 = 1) ∧
  (∀ s : State, s.rcount.toNat < 512 → (regRead 0x07 s).extractLsb' 28 2 = 2 →
    ∃ t, exec (.respByte 0xFB) s = .next t ∧ (regRead 0x07 t).extractLsb' 28 2 = 1)

/-! ## Whole-machine rules -/

/-- 10_state.md R22 to R24, R26 to R31: which commands may change each field. -/
def Obligations.EachFieldHasItsWriters : Prop :=
  ∀ (i : Instr) (s : State), ∃ t, exec i s = .next t ∧
    (t.crc ≠ s.crc → i = .crcInit ∨ (∃ d, i = .crcByte d) ∨ i = .softReset) ∧
    (t.addr ≠ s.addr → (∃ a, i = .setAddr a) ∨ i = .softReset) ∧
    (t.fbuf ≠ s.fbuf →
      i = .frameClear ∨ (∃ d, i = .framePush d) ∨ i = .frameSeal ∨ (∃ n, i = .frameBuild n) ∨ i = .softReset) ∧
    ((t.rcount ≠ s.rcount ∨ t.rlast ≠ s.rlast) → i = .respStart ∨ (∃ d, i = .respByte d) ∨ i = .softReset) ∧
    (t.err ≠ s.err → failure i s ≠ none ∨ i = .clrErr ∨ i = .softReset) ∧
    t.pending = s.pending ∧ t.reply = s.reply

/-- 10_state.md R44: which commands set and which clear each flag; no command's effect on another field depends on `ovf` or `err`,
and only FRAME_PUSH and FRAME_SEAL read `sealed`. -/
def Obligations.EachFlagHasItsWritersAndReaders : Prop :=
  (∀ (i : Instr) (s : State), ∃ t, exec i s = .next t ∧
    (s.sealed = false → t.sealed = true → i = .frameSeal ∨ ∃ n, i = .frameBuild n) ∧
    (s.sealed = true → t.sealed = false → i = .frameClear ∨ i = .softReset) ∧
    (s.matched = false → t.matched = true → i = .respByte 0xFB ∨ i = .respByte 0xFE) ∧
    (s.matched = true → t.matched = false → i = .respStart ∨ i = .softReset) ∧
    (s.ovf = false → t.ovf = true → s.rcount = 512 ∧ ∃ d, i = .respByte d) ∧
    (s.ovf = true → t.ovf = false → i = .respStart ∨ i = .softReset) ∧
    (s.err = 0 → t.err ≠ 0 → failure i s ≠ none) ∧
    (s.err ≠ 0 → t.err ≠ s.err → i = .clrErr ∨ i = .softReset)) ∧
  (∀ (i : Instr) (s : State) (o : Bool) (e : Err), ∃ t u, exec i s = .next t ∧ exec i { s with ovf := o, err := e } = .next u ∧
    { u with ovf := t.ovf, err := t.err } = t) ∧
  (∀ (i : Instr) (s : State) (b : Bool), (∀ d, i ≠ .framePush d) → i ≠ .frameSeal →
    ∃ t u, exec i s = .next t ∧ exec i { s with sealed := b } = .next u ∧ { u with sealed := t.sealed } = t) ∧
  (∀ (i : Instr) (s : State) (m : Bool), ∃ t u, exec i s = .next t ∧ exec i { s with matched := m } = .next u ∧
    { u with matched := t.matched } = t)

/-- 41_frame.md R120, 42_match.md R150, 10_state.md R22: no unit's next fields depend on another unit's, for any command. -/
def Obligations.UnitsDoNotInterfere : Prop :=
  ∀ (i : Instr) (s s' : State), ∃ t t', exec i s = .next t ∧ exec i s' = .next t' ∧
    (s.crc = s'.crc → t.crc = t'.crc) ∧
    (SameFrame s s' → SameFrame t t') ∧
    (SameMatcher s s' → SameMatcher t t') ∧
    (SameFrame s s' → s.err = s'.err → t.err = t'.err)

/-- 41_frame.md R120, 42_match.md R150, 10_state.md R22: the commands of one unit leave the other units' fields as they are. -/
def Obligations.UnitCommandsStayInTheirUnit : Prop :=
  ∀ s : State,
    (∀ i : Instr, (i = .crcInit ∨ ∃ d, i = .crcByte d) → ∃ c, exec i s = .next { s with crc := c }) ∧
    (∀ i : Instr, (i = .frameClear ∨ i = .frameSeal ∨ ∃ d, i = .setAddr d ∨ i = .framePush d ∨ i = .frameBuild d) →
      ∃ a f b e, exec i s = .next { s with addr := a, fbuf := f, sealed := b, err := e }) ∧
    (∀ i : Instr, (i = .respStart ∨ ∃ d, i = .respByte d) →
      ∃ n r m o, exec i s = .next { s with rcount := n, rlast := r, matched := m, ovf := o })
end

