-- ==== Sys2Proof/Laws/State.lean ====
section
/-!
SUPPORT. One lemma per field per named update of State: what each update writes and that it writes nothing else.
-/

namespace Sys2Proof.Machine

variable (s : State)

@[simp] theorem State.setCrc_crc (c : Crc) : (s.setCrc c).crc = c := rfl
@[simp] theorem State.setCrc_addr (c : Crc) : (s.setCrc c).addr = s.addr := rfl
@[simp] theorem State.setCrc_fbuf (c : Crc) : (s.setCrc c).fbuf = s.fbuf := rfl
@[simp] theorem State.setCrc_sealed (c : Crc) : (s.setCrc c).sealed = s.sealed := rfl
@[simp] theorem State.setCrc_rcount (c : Crc) : (s.setCrc c).rcount = s.rcount := rfl
@[simp] theorem State.setCrc_rlast (c : Crc) : (s.setCrc c).rlast = s.rlast := rfl
@[simp] theorem State.setCrc_matched (c : Crc) : (s.setCrc c).matched = s.matched := rfl
@[simp] theorem State.setCrc_ovf (c : Crc) : (s.setCrc c).ovf = s.ovf := rfl
@[simp] theorem State.setCrc_err (c : Crc) : (s.setCrc c).err = s.err := rfl
@[simp] theorem State.setCrc_pending (c : Crc) : (s.setCrc c).pending = s.pending := rfl
@[simp] theorem State.setCrc_reply (c : Crc) : (s.setCrc c).reply = s.reply := rfl

@[simp] theorem State.setAddr_crc (a : Byte) : (s.setAddr a).crc = s.crc := rfl
@[simp] theorem State.setAddr_addr (a : Byte) : (s.setAddr a).addr = a := rfl
@[simp] theorem State.setAddr_fbuf (a : Byte) : (s.setAddr a).fbuf = s.fbuf := rfl
@[simp] theorem State.setAddr_sealed (a : Byte) : (s.setAddr a).sealed = s.sealed := rfl
@[simp] theorem State.setAddr_rcount (a : Byte) : (s.setAddr a).rcount = s.rcount := rfl
@[simp] theorem State.setAddr_rlast (a : Byte) : (s.setAddr a).rlast = s.rlast := rfl
@[simp] theorem State.setAddr_matched (a : Byte) : (s.setAddr a).matched = s.matched := rfl
@[simp] theorem State.setAddr_ovf (a : Byte) : (s.setAddr a).ovf = s.ovf := rfl
@[simp] theorem State.setAddr_err (a : Byte) : (s.setAddr a).err = s.err := rfl
@[simp] theorem State.setAddr_pending (a : Byte) : (s.setAddr a).pending = s.pending := rfl
@[simp] theorem State.setAddr_reply (a : Byte) : (s.setAddr a).reply = s.reply := rfl

@[simp] theorem State.setFrame_crc (bs : List Byte) (b : Bool) : (s.setFrame bs b).crc = s.crc := rfl
@[simp] theorem State.setFrame_addr (bs : List Byte) (b : Bool) : (s.setFrame bs b).addr = s.addr := rfl
@[simp] theorem State.setFrame_fbuf (bs : List Byte) (b : Bool) : (s.setFrame bs b).fbuf = bs := rfl
@[simp] theorem State.setFrame_sealed (bs : List Byte) (b : Bool) : (s.setFrame bs b).sealed = b := rfl
@[simp] theorem State.setFrame_rcount (bs : List Byte) (b : Bool) : (s.setFrame bs b).rcount = s.rcount := rfl
@[simp] theorem State.setFrame_rlast (bs : List Byte) (b : Bool) : (s.setFrame bs b).rlast = s.rlast := rfl
@[simp] theorem State.setFrame_matched (bs : List Byte) (b : Bool) : (s.setFrame bs b).matched = s.matched := rfl
@[simp] theorem State.setFrame_ovf (bs : List Byte) (b : Bool) : (s.setFrame bs b).ovf = s.ovf := rfl
@[simp] theorem State.setFrame_err (bs : List Byte) (b : Bool) : (s.setFrame bs b).err = s.err := rfl
@[simp] theorem State.setFrame_pending (bs : List Byte) (b : Bool) : (s.setFrame bs b).pending = s.pending := rfl
@[simp] theorem State.setFrame_reply (bs : List Byte) (b : Bool) : (s.setFrame bs b).reply = s.reply := rfl

@[simp] theorem State.setResponse_crc (n : BitVec 10) (r : BitVec 24) (m : Bool) : (s.setResponse n r m).crc = s.crc := rfl
@[simp] theorem State.setResponse_addr (n : BitVec 10) (r : BitVec 24) (m : Bool) : (s.setResponse n r m).addr = s.addr := rfl
@[simp] theorem State.setResponse_fbuf (n : BitVec 10) (r : BitVec 24) (m : Bool) : (s.setResponse n r m).fbuf = s.fbuf := rfl
@[simp] theorem State.setResponse_sealed (n : BitVec 10) (r : BitVec 24) (m : Bool) : (s.setResponse n r m).sealed = s.sealed := rfl
@[simp] theorem State.setResponse_rcount (n : BitVec 10) (r : BitVec 24) (m : Bool) : (s.setResponse n r m).rcount = n := rfl
@[simp] theorem State.setResponse_rlast (n : BitVec 10) (r : BitVec 24) (m : Bool) : (s.setResponse n r m).rlast = r := rfl
@[simp] theorem State.setResponse_matched (n : BitVec 10) (r : BitVec 24) (m : Bool) : (s.setResponse n r m).matched = m := rfl
@[simp] theorem State.setResponse_ovf (n : BitVec 10) (r : BitVec 24) (m : Bool) : (s.setResponse n r m).ovf = s.ovf := rfl
@[simp] theorem State.setResponse_err (n : BitVec 10) (r : BitVec 24) (m : Bool) : (s.setResponse n r m).err = s.err := rfl
@[simp] theorem State.setResponse_pending (n : BitVec 10) (r : BitVec 24) (m : Bool) : (s.setResponse n r m).pending = s.pending := rfl
@[simp] theorem State.setResponse_reply (n : BitVec 10) (r : BitVec 24) (m : Bool) : (s.setResponse n r m).reply = s.reply := rfl

@[simp] theorem State.setOvf_crc (b : Bool) : (s.setOvf b).crc = s.crc := rfl
@[simp] theorem State.setOvf_addr (b : Bool) : (s.setOvf b).addr = s.addr := rfl
@[simp] theorem State.setOvf_fbuf (b : Bool) : (s.setOvf b).fbuf = s.fbuf := rfl
@[simp] theorem State.setOvf_sealed (b : Bool) : (s.setOvf b).sealed = s.sealed := rfl
@[simp] theorem State.setOvf_rcount (b : Bool) : (s.setOvf b).rcount = s.rcount := rfl
@[simp] theorem State.setOvf_rlast (b : Bool) : (s.setOvf b).rlast = s.rlast := rfl
@[simp] theorem State.setOvf_matched (b : Bool) : (s.setOvf b).matched = s.matched := rfl
@[simp] theorem State.setOvf_ovf (b : Bool) : (s.setOvf b).ovf = b := rfl
@[simp] theorem State.setOvf_err (b : Bool) : (s.setOvf b).err = s.err := rfl
@[simp] theorem State.setOvf_pending (b : Bool) : (s.setOvf b).pending = s.pending := rfl
@[simp] theorem State.setOvf_reply (b : Bool) : (s.setOvf b).reply = s.reply := rfl

@[simp] theorem State.setErr_crc (e : Err) : (s.setErr e).crc = s.crc := rfl
@[simp] theorem State.setErr_addr (e : Err) : (s.setErr e).addr = s.addr := rfl
@[simp] theorem State.setErr_fbuf (e : Err) : (s.setErr e).fbuf = s.fbuf := rfl
@[simp] theorem State.setErr_sealed (e : Err) : (s.setErr e).sealed = s.sealed := rfl
@[simp] theorem State.setErr_rcount (e : Err) : (s.setErr e).rcount = s.rcount := rfl
@[simp] theorem State.setErr_rlast (e : Err) : (s.setErr e).rlast = s.rlast := rfl
@[simp] theorem State.setErr_matched (e : Err) : (s.setErr e).matched = s.matched := rfl
@[simp] theorem State.setErr_ovf (e : Err) : (s.setErr e).ovf = s.ovf := rfl
@[simp] theorem State.setErr_err (e : Err) : (s.setErr e).err = e := rfl
@[simp] theorem State.setErr_pending (e : Err) : (s.setErr e).pending = s.pending := rfl
@[simp] theorem State.setErr_reply (e : Err) : (s.setErr e).reply = s.reply := rfl

@[simp] theorem State.setHost_crc (es : List HostEvent) (v : Option Word) : (s.setHost es v).crc = s.crc := rfl
@[simp] theorem State.setHost_addr (es : List HostEvent) (v : Option Word) : (s.setHost es v).addr = s.addr := rfl
@[simp] theorem State.setHost_fbuf (es : List HostEvent) (v : Option Word) : (s.setHost es v).fbuf = s.fbuf := rfl
@[simp] theorem State.setHost_sealed (es : List HostEvent) (v : Option Word) : (s.setHost es v).sealed = s.sealed := rfl
@[simp] theorem State.setHost_rcount (es : List HostEvent) (v : Option Word) : (s.setHost es v).rcount = s.rcount := rfl
@[simp] theorem State.setHost_rlast (es : List HostEvent) (v : Option Word) : (s.setHost es v).rlast = s.rlast := rfl
@[simp] theorem State.setHost_matched (es : List HostEvent) (v : Option Word) : (s.setHost es v).matched = s.matched := rfl
@[simp] theorem State.setHost_ovf (es : List HostEvent) (v : Option Word) : (s.setHost es v).ovf = s.ovf := rfl
@[simp] theorem State.setHost_err (es : List HostEvent) (v : Option Word) : (s.setHost es v).err = s.err := rfl
@[simp] theorem State.setHost_pending (es : List HostEvent) (v : Option Word) : (s.setHost es v).pending = es := rfl
@[simp] theorem State.setHost_reply (es : List HostEvent) (v : Option Word) : (s.setHost es v).reply = v := rfl

end Sys2Proof.Machine
end

