-- ==== Sys2Proof/Laws/Ops.lean ====
section
/-!
SUPPORT. One lemma per shared operation that says all it can do, for the proofs to cite instead of unfolding the operation.
-/

namespace Sys2Proof.Machine

/-! Errors. -/

/-- `raise Err` writes `err` and nothing else. -/
theorem raiseErr_eq (e : ErrCode) (s : State) :
    raiseErr e s = { s with err := if s.err = 0 then e.code else s.err } := by
  unfold raiseErr State.setErr; split <;> simp_all

/-- A recorded code is kept. -/
theorem raiseErr_of_recorded (e : ErrCode) (s : State) (h : s.err ≠ 0) : raiseErr e s = s := if_neg h

/-- Every raised code is one of 1 to 4. -/
theorem errCode_range (e : ErrCode) : 1 ≤ e.code.toNat ∧ e.code.toNat ≤ 4 := by
  cases e <;> decide

/-- Clearing writes `err` and nothing else. -/
theorem clearErr_eq (s : State) : clearErr s = { s with err := 0 } := rfl

/-! The configuration. -/

/-- This hardware's widths and template count (00_scope.md R6) are those of the types and the templates. -/
theorem fcb_fits : Fits fcb := ⟨rfl, rfl, rfl, rfl, rfl, rfl⟩

/-- So are those of the alternative reading of the markers. -/
theorem fcbNibble_fits : Fits fcbNibble := ⟨rfl, rfl, rfl, rfl, rfl, rfl⟩

/-- This hardware appends two checksum bytes. -/
@[simp] theorem crcBytes_fcb : crcBytes fcb = 2 := rfl

/-- This hardware's longest payload (41_frame.md R126). -/
@[simp] theorem payloadMax_fcb : payloadMax fcb = 254 := rfl

/-! CRC and frames. -/

/-- One more round is a round, then the rest. -/
theorem crcRounds_succ (cfg : Config) (n : Nat) (c : Crc) :
    crcRounds cfg (n + 1) c = crcRounds cfg n (crcRound cfg c) := rfl

/-- The checksum of this hardware: the accumulator's low byte, then its high byte. -/
theorem checksum_fcb (bs : List Byte) :
    checksum fcb bs = [(crc16 fcb bs).extractLsb' 0 8, (crc16 fcb bs).extractLsb' 8 8] := rfl

/-- Encoding a frame adds the checksum's bytes, under every configuration. -/
theorem encodeFrame_length (cfg : Config) (bs : List Byte) :
    (encodeFrame cfg bs).length = bs.length + crcBytes cfg := by
  cases h : cfg.crcByteOrder <;> simp [encodeFrame, checksum, h]

/-- The payload of an encoded frame is all but the checksum's bytes. -/
theorem encodeFrame_take (cfg : Config) (bs : List Byte) :
    (encodeFrame cfg bs).take ((encodeFrame cfg bs).length - crcBytes cfg) = bs := by
  rw [encodeFrame_length]; simp [encodeFrame]

/-- The templates of this hardware: ids 0 and 1, and no other. -/
theorem templateBytes_fcb (t a : Byte) :
    (t = 0 ∧ templateBytes fcb t a = some [0x06, a, 0x01, 0x00, 0x06]) ∨
    (t = 1 ∧ templateBytes fcb t a = some [0x04, a, 0x0F]) ∨
    (2 ≤ t.toNat ∧ templateBytes fcb t a = none) := by
  by_cases h0 : t = 0
  · subst h0; exact .inl ⟨rfl, rfl⟩
  by_cases h1 : t = 1
  · subst h1; exact .inr (.inl ⟨rfl, rfl⟩)
  have h : 2 ≤ t.toNat := by
    have a0 : t.toNat ≠ 0 := fun h => h0 (BitVec.eq_of_toNat_eq h)
    have a1 : t.toNat ≠ 1 := fun h => h1 (BitVec.eq_of_toNat_eq h)
    omega
  refine .inr (.inr ⟨h, ?_⟩)
  simp [templateBytes, fcb]; omega

/-! The matcher. -/

/-- Beginning a response clears the matcher's four fields and nothing else. -/
theorem clearResponse_eq (s : State) :
    clearResponse s = { s with rcount := 0, rlast := 0, matched := false, ovf := false } := rfl

/-- Accepting a byte either drops it and sets `ovf`, or tests it, shifts it in and counts it. -/
theorem acceptByte_cases (cfg : Config) (d : Byte) (s : State) :
    (s.rcount = BitVec.ofNat 10 cfg.respMax ∧ acceptByte cfg d s = { s with ovf := true }) ∨
    (s.rcount ≠ BitVec.ofNat 10 cfg.respMax ∧ acceptByte cfg d s = { s with
      rcount := s.rcount + 1, rlast := shiftIn s.rlast d,
      matched := s.matched || markerHit cfg s.rcount s.rlast d }) := by
  by_cases h : s.rcount = BitVec.ofNat 10 cfg.respMax
  · exact .inl ⟨h, by simp [acceptByte, h, State.setOvf]⟩
  · exact .inr ⟨h, by simp [acceptByte, h, State.setResponse]⟩

/-- The markers of this hardware. -/
theorem isMarker_fcb (b : Byte) : isMarker fcb b = true ↔ b = 0xFB ∨ b = 0xFE := by
  simp [isMarker, fcb]

/-- The newest byte is byte 0 after a shift. -/
theorem byteAt_shiftIn_zero (r : BitVec 24) (d : Byte) : byteAt (shiftIn r d) 0 = d := by
  ext k hk; simp [byteAt, shiftIn, zext, hk]; omega

/-- Each older byte moves up by one place. -/
theorem byteAt_shiftIn_succ (r : BitVec 24) (d : Byte) (j : Nat) (h : j < 2) :
    byteAt (shiftIn r d) (j + 1) = byteAt r j := by
  ext k hk
  have hd : d.getLsbD (8 * (j + 1) + k) = false := BitVec.getLsbD_of_ge _ _ (by omega)
  have hs : 8 * (j + 1) + k - 8 = 8 * j + k := by omega
  have hl : 8 * (j + 1) + k < 24 := by omega
  have hg : ¬ 8 * (j + 1) + k < 8 := by omega
  simp only [byteAt, shiftIn, zext, BitVec.getElem_extractLsb', BitVec.getLsbD_or, BitVec.getLsbD_shiftLeft,
    BitVec.getLsbD_setWidth, hd, hs, hl, hg]
  simp

/-! Reset. -/

/-- The reset writes the block's nine fields and leaves the host's side. -/
theorem resetBlock_eq (s : State) :
    resetBlock s = { State.reset with pending := s.pending, reply := s.reply } := rfl

/-! The interface. -/

/-- An access is expressible exactly when its offset is a multiple of 4 and it is a word. -/
theorem expressible_iff (off : ByteOffset) (size : AccessSize) :
    expressible off size = true ↔ off.toNat % 4 = 0 ∧ size = .word := by
  revert off; cases size <;> decide

/-- The two low bits of a byte offset are its remainder by 4. -/
theorem aligned_iff (off : ByteOffset) : off.extractLsb' 0 2 = 0 ↔ off.toNat % 4 = 0 := by
  revert off; decide

/-- An aligned byte offset is four times its word offset. -/
theorem wordOffset_spec (off : ByteOffset) (h : off.toNat % 4 = 0) : 4 * (wordOffset off).toNat = off.toNat := by
  revert h; revert off; decide

/-- Every command answers a next state: none faults and none is refused. -/
theorem exec_answers_next (i : Instr) (s : State) : ∃ t, exec i s = .next t := by
  cases i <;>
    simp only [exec, execNop, execCrcInit, execCrcByte, execSetAddr, execFrameClear, execFramePush, execFrameSeal,
      execFrameBuild, execRespStart, execRespByte, execClrErr, execSoftReset] <;>
    repeat' split
  all_goals exact ⟨_, rfl⟩

/-- An illegal word is executed as `raise Err(E_ILLEGAL)`. -/
theorem execute_of_illegal (w : Word) (why : Illegal) (s : State) (h : decode w = .illegal why) :
    execute w s = .next (raiseErr .illegal s) := by
  simp [execute, h, execIllegal]

/-- A legal word is executed as its command. -/
theorem execute_of_legal (w : Word) (i : Instr) (s : State) (h : decode w = .legal i) : execute w s = exec i s := by
  simp [execute, h]

end Sys2Proof.Machine
end

