-- ==== Sys2Proof/Laws/PerInstr.lean ====
section
/-!
SUPPORT. Facts about every instruction as syntax, one lemma per constructor.
-/

/-- The word an instruction encodes to passes the three checks of 30_encoding.md R84. -/
def Sys2Proof.Laws.EncodesWellFormed.Statement (i : Sys2Proof.Instr) : Prop := i.wellFormed = true

namespace Sys2Proof.Laws.EncodesWellFormed

theorem nop : Statement .nop := by unfold Statement; decide
theorem crcInit : Statement .crcInit := by unfold Statement; decide
theorem crcByte (d : Byte) : Statement (.crcByte d) := by unfold Statement; revert d; decide
theorem setAddr (a : Byte) : Statement (.setAddr a) := by unfold Statement; revert a; decide
theorem frameClear : Statement .frameClear := by unfold Statement; decide
theorem framePush (d : Byte) : Statement (.framePush d) := by unfold Statement; revert d; decide
theorem frameSeal : Statement .frameSeal := by unfold Statement; decide
theorem frameBuild (t : Byte) : Statement (.frameBuild t) := by unfold Statement; revert t; decide
theorem respStart : Statement .respStart := by unfold Statement; decide
theorem respByte (d : Byte) : Statement (.respByte d) := by unfold Statement; revert d; decide
theorem clrErr : Statement .clrErr := by unfold Statement; decide
theorem softReset : Statement .softReset := by unfold Statement; decide

end Sys2Proof.Laws.EncodesWellFormed
end

