-- ==== Sys2Proof/Tests/Slice0.lean ====
section
/-!
SUPPORT. Small tests of the model, each value from 95_test_vectors.md or the rule named, and for each statement with hypotheses a
witness that meets them. No test runs more than a few commands.
-/

namespace Sys2Proof.Tests

open Sys2Proof.Machine

/-! ## Well-formedness: each check refuses an ill-formed term (30_encoding.md R84) -/

theorem test_wellFormed_accepts : (⟨0x02, 0x0000, 0x06⟩ : Fields).wellFormed = true := by decide
theorem test_wellFormed_refuses_op :
    (⟨0x05, 0x0000, 0x00⟩ : Fields).opAssigned = false ∧ (⟨0x05, 0x0000, 0x00⟩ : Fields).wellFormed = false := by decide
theorem test_wellFormed_refuses_rsv :
    (⟨0x02, 0x0100, 0x06⟩ : Fields).rsvZero = false ∧ (⟨0x02, 0x0100, 0x06⟩ : Fields).wellFormed = false := by decide
theorem test_wellFormed_refuses_arg :
    (⟨0x01, 0x0000, 0x01⟩ : Fields).argAllowed = false ∧ (⟨0x01, 0x0000, 0x01⟩ : Fields).wellFormed = false := by decide

/-! ## Decoding: words written out bit by bit from 30_encoding.md R80 and R82 (OP, RSV, ARG) -/

theorem test_decode_nop : decode 0b00000000_0000000000000000_00000000 = .legal .nop := by decide
theorem test_decode_crcInit : decode 0b00000001_0000000000000000_00000000 = .legal .crcInit := by decide
theorem test_decode_crcByte : decode 0b00000010_0000000000000000_00000110 = .legal (.crcByte 0x06) := by decide
theorem test_decode_setAddr : decode 0b00010000_0000000000000000_11111111 = .legal (.setAddr 0xFF) := by decide
theorem test_decode_frameClear : decode 0b00010001_0000000000000000_00000000 = .legal .frameClear := by decide
theorem test_decode_framePush : decode 0b00010010_0000000000000000_00001111 = .legal (.framePush 0x0F) := by decide
theorem test_decode_frameSeal : decode 0b00010011_0000000000000000_00000000 = .legal .frameSeal := by decide
theorem test_decode_frameBuild : decode 0b00010100_0000000000000000_10000001 = .legal (.frameBuild 0x81) := by decide
theorem test_decode_respStart : decode 0b00100000_0000000000000000_00000000 = .legal .respStart := by decide
theorem test_decode_respByte : decode 0b00100001_0000000000000000_11111110 = .legal (.respByte 0xFE) := by decide
theorem test_decode_clrErr : decode 0b00110000_0000000000000000_00000000 = .legal .clrErr := by decide
theorem test_decode_softReset : decode 0b00111111_0000000000000000_00000000 = .legal .softReset := by decide

/-- The illegal rows of 95_test_vectors.md 2.6, and 30_encoding.md R89's. -/
theorem test_decode_illegal :
    decode 0x13000001 = .illegal .argNonzero ∧ decode 0x02800006 = .illegal .reservedNonzero ∧
    decode 0x22000000 = .illegal .unassignedOp ∧ decode 0x3F000001 = .illegal .argNonzero := by decide

theorem test_decodeTableWord : decodeTableWord 32 0x120000FF = some (.framePush 0xFF) ∧ decodeTableWord 32 0x05000000 = none := by
  decide

/-! ## One command on a small state -/

/-- The next state of an outcome. -/
def nextOf : Result → Option State
  | .next t => some t
  | .fault _ => none
  | .refused _ => none

/-- A field of the state after a command. -/
def after {α : Type} (f : State → α) (i : Instr) (s : State) : Option α := (nextOf (exec i s)).map f

/-- A state that differs from reset in every field of the block. -/
def busy : State :=
  { State.reset with
    crc := 0x1234, addr := 0x12, fbuf := [0x04, 0xFF, 0x0F], rcount := 3, rlast := 0x11FB33, matched := true, ovf := false, err := 1 }

theorem test_nop : nextOf (exec .nop busy) = some busy := by decide
theorem test_crcInit : after State.crc .crcInit busy = some 0xFFFF := by decide
theorem test_crcByte : after State.crc (.crcByte 0x06) State.reset = some 0x6AB1 := by decide
theorem test_crcByte_second : after State.crc (.crcByte 0xFF) { State.reset with crc := 0x6AB1 } = some 0xAB10 := by decide
theorem test_setAddr : after State.addr (.setAddr 0x00) busy = some 0x00 := by decide
theorem test_frameClear : after (fun t => (t.fbuf, t.sealed)) .frameClear { busy with sealed := true } = some ([], false) := by decide
theorem test_framePush : after State.fbuf (.framePush 0xFB) { State.reset with fbuf := [0x04, 0x00] } = some [0x04, 0x00, 0xFB] := by
  decide
theorem test_framePush_sealed_before_full : after State.err (.framePush 0x00)
    { State.reset with sealed := true, fbuf := List.replicate 254 0x00 } = some 3 := by decide +kernel
/-- Vector F5. -/
theorem test_frameSeal : after (fun t => (t.fbuf, t.sealed)) .frameSeal busy = some ([0x04, 0xFF, 0x0F, 0x65, 0x5D], true) := by
  decide +kernel
theorem test_frameSeal_twice : after (fun t => (t.fbuf, t.err)) .frameSeal { busy with sealed := true, err := 0 } =
    some ([0x04, 0xFF, 0x0F], 3) := by decide
/-- Vector F13. -/
theorem test_frameBuild : after State.fbuf (.frameBuild 0) busy = some [0x06, 0x12, 0x01, 0x00, 0x06, 0x2D, 0xCE] := by decide +kernel
/-- Vector F8. -/
theorem test_frameBuild_reserved : after (fun t => (t.fbuf, t.err)) (.frameBuild 2) { busy with err := 0 } =
    some ([0x04, 0xFF, 0x0F], 2) := by decide
theorem test_respStart : after (fun t => (t.rcount, t.rlast, t.matched, t.ovf)) .respStart busy = some (0, 0, false, false) := by decide
/-- Vector M5: the live RESULT. -/
theorem test_respByte : after (regRead 0x07) (.respByte 0x0A) State.reset = some 0x2100000A := by decide
/-- Vector M4: a dropped byte is not classified. -/
theorem test_respByte_dropped : after (fun t => (t.matched, t.ovf, t.rcount)) (.respByte 0xFB) { State.reset with rcount := 512 } =
    some (false, true, 512) := by decide
theorem test_clrErr : after (fun t => (t.err, t.fbuf)) .clrErr busy = some (0, [0x04, 0xFF, 0x0F]) := by decide
theorem test_softReset : nextOf (exec .softReset busy) = some State.reset := by decide

/-- Vectors E3 and E6: an illegal word, and the first error kept. -/
theorem test_illegal_word : (nextOf (execute 0x05000000 State.reset)).map State.err = some 1 ∧
    (nextOf (execute 0x14000007 busy)).map State.err = some 1 := by decide

/-- The parameters of 00_scope.md R6 that are counts or widths, and the 512-byte window. -/
theorem test_parameters : fcb.crcWidth = 16 ∧ fcb.templateCount = 2 ∧ fcb.frameCap = 256 ∧ fcb.respMax = 512 ∧ fcb.uidBytes = 3 ∧
    fcb.errWidth = 4 ∧ fcb.dataWidth = 32 ∧ fcb.offsetWidth = 7 ∧ windowBytes fcb = 512 ∧ payloadMax fcb = 254 := by decide

/-- 00_scope.md R3, 95_test_vectors.md 2.1: the check value of "123456789". -/
theorem test_crc16_check_value : crc16 fcb [0x31, 0x32, 0x33, 0x34, 0x35, 0x36, 0x37, 0x38, 0x39] = 0x6F91 := by decide +kernel

/-- 95_test_vectors.md 2.3: `0F B0` and `BF BF BF` under both alignments. -/
theorem test_nibble :
    (resultWord fcb (acceptByte fcb 0xB0 (acceptByte fcb 0x0F State.reset)) = 0x22000FB0) ∧
    (resultWord fcbNibble (acceptByte fcbNibble 0xB0 (acceptByte fcbNibble 0x0F State.reset)) = 0x12000FB0) := by decide

/-- Reads of a sealed frame (41_frame.md R128). -/
theorem test_frame_window :
    regRead 0x40 { State.reset with fbuf := [0x06, 0xFF, 0x01, 0x00, 0x06, 0x28, 0xF1] } = 0x0001FF06 ∧
    regRead 0x41 { State.reset with fbuf := [0x06, 0xFF, 0x01, 0x00, 0x06, 0x28, 0xF1] } = 0x00F12806 := by decide

theorem test_statusWord : statusWord { busy with sealed := true, err := 0 } = 0x50 := by decide

/-- 42_match.md R156: the UID's text. -/
theorem test_uidText : uidText 0x23112233 = ['1', '1', '2', '2', '3', '3'] ∧ uidText 0x2200FA0C = ['F', 'A', '0', 'C'] := by decide

/-- One step from the host's list: a command word, a read, and a refused access. -/
theorem test_step_command : (nextOf (step (State.reset.withFetchWord 32 0x10000012))).map State.addr = some 0x12 := by decide
theorem test_step_read : (nextOf (step { State.reset with pending := [.read 0x000 .word] })).map State.reply = some (some 0x8408FFFF) := by
  decide
theorem test_step_refused : nextOf (step { State.reset with pending := [.read 0x002 .word] }) = none := by decide

/-- 30_encoding.md R87, R88. -/
theorem test_assemble : assemble ["CRC_BYTE 0x06 ; data".toList, "READ FRAME[1]".toList, "RESP FB".toList] =
    some [.write 0x004 .word 0x02000006, .read 0x104 .word, .write 0x004 .word 0x20000000, .write 0x004 .word 0x210000FB] := by decide
theorem test_assemble_refuses : assemble ["NOP 1".toList] = none ∧ assemble ["CRC_BYTE 256".toList] = none := by decide
/-- Log entry 7: leading zeros, and hex digits in lower case. -/
theorem test_assemble_digits : assembleLine "CRC_BYTE 007".toList = some [.command (.crcByte 0x07)] ∧
    assembleLine "READ FRAME[01]".toList = some [.read 0x104] ∧ assembleLine "READ RESULT".toList = some [.read 0x01C] ∧
    assembleLine "CRC_BYTE 0xfE".toList = some [.command (.crcByte 0xFE)] := by decide

/-! ## Witnesses: a concrete case that meets the hypotheses of a statement, one per clause -/

theorem witness_DecodeInvertsEncode : decode 0x210000FB = .legal (.respByte 0xFB) := by decide

theorem witness_IllegalWords : IsIllegal 0x05000000 ∧ IsIllegal 0x02010006 ∧ IsIllegal 0x01000001 ∧ IsIllegal 0x00000001 :=
  ⟨⟨.unassignedOp, by decide⟩, ⟨.reservedNonzero, by decide⟩, ⟨.argNonzero, by decide⟩, ⟨.argNonzero, by decide⟩⟩

/-- Both ends of each range of UnassignedOpcodesAreIllegal. -/
theorem witness_UnassignedOpcodesAreIllegal :
    ([0x03000000, 0x0F000000, 0x15000000, 0x1F000000, 0x22000000, 0x2F000000, 0x31000000, 0x3E000000, 0x40000000, 0xFF000000] :
      List Word).all (fun w =>
        let op := (w.extractLsb' 24 8).toNat
        decide ((0x03 ≤ op ∧ op ≤ 0x0F) ∨ (0x15 ≤ op ∧ op ≤ 0x1F) ∨ (0x22 ≤ op ∧ op ≤ 0x2F) ∨ (0x31 ≤ op ∧ op ≤ 0x3E) ∨
          0x40 ≤ op)) = true := by decide

/-- SoleWord and ByteWords: a word with the opcode and another ARG, and one with RSV not 0. -/
theorem witness_SoleWord : (0x01000001 : Word).extractLsb' 24 8 = 0x01 ∧ (0x01000001 : Word) ≠ 0x01000000 := by decide
theorem witness_ByteWords : (0x02010006 : Word).extractLsb' 24 8 = 0x02 ∧ (0x02010006 : Word).extractLsb' 8 16 ≠ 0 := by decide

theorem witness_ZeroByteKeepsExactlyTwoAccumulators : ({ State.reset with crc := 0xF80F } : State).crc = 0xF80F := rfl

/-- An open frame with the longest payload, an open frame one byte short of it, and a sealed frame. -/
def fullFrame : State := { State.reset with fbuf := List.replicate 254 0x00 }
def almostFull : State := { State.reset with fbuf := List.replicate 253 0x00 }
def sealedFrame : State := { State.reset with fbuf := [0xFF, 0xFF], sealed := true }

theorem witness_FramePushAppendsOrFails :
    sealedFrame.sealed = true ∧ (fullFrame.sealed = false ∧ fullFrame.fbuf.length = 254) ∧
    (almostFull.sealed = false ∧ almostFull.fbuf.length ≠ 254) := by decide +kernel

theorem witness_FrameSealAppendsChecksum :
    sealedFrame.sealed = true ∧ (Inv State.reset ∧ State.reset.sealed = false ∧ State.reset.fbuf = []) ∧
    (busy.sealed = false ∧ busy.fbuf = [0x04, 0xFF, 0x0F]) ∧
    exec .frameSeal State.reset = .next { State.reset with fbuf := encodeFrame fcb [], sealed := true } :=
  ⟨by decide, by decide, by decide, rfl⟩

/-- The ids at the edge of the reserved range, and the address of FrameBuildBuildsTemplates' last clause. -/
theorem witness_FrameBuildBuildsTemplates : 2 ≤ (2 : Byte).toNat ∧ 2 ≤ (255 : Byte).toNat ∧ (1 : Byte).toNat < 2 ∧
    State.reset.addr = 0xFF := by decide

theorem witness_RespByteAcceptsOrDrops :
    ({ State.reset with rcount := 512 } : State).rcount = 512 ∧ ({ State.reset with rcount := 511 } : State).rcount ≠ 512 := by decide

theorem witness_Failures :
    failure (.framePush 0) sealedFrame = some .sealed ∧ failure (.framePush 0) fullFrame = some .full ∧
    failure .frameSeal sealedFrame = some .sealed ∧ failure (.frameBuild 2) State.reset = some .template ∧
    failure (.framePush 0) almostFull = none ∧ ¬ ClearsErr (.framePush 0) ∧ ClearsErr .clrErr ∧ ClearsErr .softReset ∧
    busy.err ≠ 0 :=
  ⟨by decide +kernel, by decide +kernel, by decide, by decide, by decide +kernel, by simp [ClearsErr], .inl rfl, .inr rfl, by decide⟩

/-- A host list of a failing command, a read and an ignored write, with an error recorded. -/
def errorRun : State :=
  { State.reset with err := 3, pending := [.write 0x004 .word 0x14000007, .read 0x008 .word, .write 0x008 .word 0xFFFFFFFF] }

theorem witness_FirstErrorCodeIsKeptUntilCleared :
    errorRun.pending = [.write 0x004 .word 0x14000007, .read 0x008 .word, .write 0x008 .word 0xFFFFFFFF] ++ [] ∧ errorRun.err ≠ 0 ∧
    (∀ e ∈ errorRun.pending, Served e ∧ e ≠ .reset ∧ e ≠ .write 0x004 .word 0x30000000 ∧ e ≠ .write 0x004 .word 0x3F000000) := by
  simp [errorRun, Served]

theorem witness_OnlyClearingEventsClearError :
    ({ busy with pending := [.write 0x004 .word 0x30000000] } : State).pending = .write 0x004 .word 0x30000000 :: [] ∧
    ({ busy with pending := [.reset] } : State).pending = .reset :: [] ∧
    ({ busy with pending := [.write 0x004 .word 0x3F000000] } : State).pending = .write 0x004 .word 0x3F000000 :: [] ∧
    errorRun.err ≠ 0 ∧ (nextOf (step errorRun)).isSome = true ∧ (0 : Byte).toNat < 2 ∧ (1 : Byte).toNat < 2 := by decide

theorem witness_StepRunsDecodedCommand :
    (State.reset.withFetchWord 32 0x02000006).pending = .write 0x004 .word 0x02000006 :: [] ∧
    decode 0x02000006 = .legal (.crcByte 0x06) := by decide

theorem witness_IllegalWordRecordsOnlyError :
    (State.reset.withFetchWord 32 0x05000000).pending = .write 0x004 .word 0x05000000 :: [] ∧ IsIllegal 0x05000000 :=
  ⟨by decide, .unassignedOp, by decide⟩

/-- The first and last offset of the window, a double read, an ignored write at the last offset, and two RESP_BYTE writes at the
last count from which both are accepted. -/
theorem witness_RegisterWindowReadsAndWrites :
    (0x000 : ByteOffset).toNat % 4 = 0 ∧ (0x1FC : ByteOffset).toNat % 4 = 0 ∧
    ({ busy with pending := [.read 0x1FC .word, .read 0x1FC .word] } : State).pending = .read 0x1FC .word :: .read 0x1FC .word :: [] ∧
    (0x1FC : ByteOffset) ≠ 0x004 ∧
    ({ busy with pending := [.write 0x1FC .word 0] } : State).pending = .write 0x1FC .word 0 :: [] ∧
    ({ State.reset with rcount := 510, pending := commandEvents [.respByte 0x11, .respByte 0x11] } : State).rcount.toNat ≤ 510 := by
  decide

theorem witness_InexpressibleAccessIsRefused :
    (0x001 : ByteOffset).toNat % 4 ≠ 0 ∧ (0x1FF : ByteOffset).toNat % 4 ≠ 0 ∧ (AccessSize.double ≠ .word) ∧
    Served (.read 0x1FC .word) ∧ Served .reset ∧ Served (.write 0x000 .word 0) := by simp [Served]

theorem witness_EveryServedEventListCompletes :
    ∀ e ∈ errorRun.pending, Served e := by simp [errorRun, Served]

theorem witness_BlockHoldsStateWithoutEvent : State.reset.pending = [] := rfl

theorem witness_HostWritesRunTheirCommands :
    ({ State.reset with pending := commandEvents [.respStart, .respByte 0x11] } : State).pending =
      commandEvents (.respStart :: [.respByte 0x11]) ++ [] := by decide

theorem witness_OnlyCmdWritesChangeBlock :
    ({ busy with pending := [.write 0x008 .word 0] } : State).pending = .write 0x008 .word 0 :: [] ∧
    Served (.write 0x008 .word 0) ∧ HostEvent.write 0x008 .word 0 ≠ .reset ∧
    ∀ w, HostEvent.write 0x008 .word 0 ≠ .write 0x004 .word w := by simp [Served]

/-- Reserved offsets at both ends, the open frame of FLEN's last clause, and a step from the invariant. -/
theorem witness_PlainRegisters :
    (8 ≤ (8 : WordOffset).toNat ∧ (63 : WordOffset).toNat < 64) ∧ (fullFrame.fbuf.length ≤ 254 ∧ fullFrame.sealed = false) ∧
    Inv State.reset ∧ (nextOf (step (State.reset.withFetchWord 32 0x14000000))).isSome = true := by decide +kernel

theorem witness_NoHiddenState : busy.fbuf.length ≤ 256 ∧ (∀ w, regRead w busy = regRead w { busy with reply := some 0 }) := by
  refine ⟨by decide, ?_⟩; decide +kernel

theorem witness_ResetValuesAndReads :
    ({ busy with pending := [.reset] } : State).pending = .reset :: [] ∧ SameBlock State.reset State.reset ∧
    64 ≤ (64 : WordOffset).toNat ∧ 64 ≤ (127 : WordOffset).toNat := by simp [SameBlock]

/-- A state that is not the reset state has the invariant, and a step leaves it. -/
theorem witness_EveryStepKeepsInvariant :
    Inv { sealedFrame with pending := [.write 0x004 .word 0x21000011] } ∧
    (nextOf (step { sealedFrame with pending := [.write 0x004 .word 0x21000011] })).isSome = true := by decide +kernel

/-- ReservedTemplateIdsDecodeAndFail and AddressIsBoundAtBuild: both ends of each range of ids. -/
theorem witness_ReservedTemplateIdsDecodeAndFail : 2 ≤ (2 : Byte).toNat ∧ 2 ≤ (255 : Byte).toNat ∧ (0 : Byte).toNat < 2 ∧
    (1 : Byte).toNat < 2 := by decide
theorem witness_AddressIsBoundAtBuild : (0 : Byte).toNat < 2 ∧ (1 : Byte).toNat < 2 := by decide

theorem witness_ClrErrClearsOnlyErr :
    failure .frameSeal sealedFrame = some .sealed ∧ busy.err ≠ 0 ∧ ¬ ClearsErr .frameSeal :=
  ⟨by decide, by decide, by simp [ClearsErr]⟩

/-- StatusBits, ResultFields, FrameWindowBytes: a write to each register, at both ends of the window of frame words. -/
theorem witness_ReadOnlyAt :
    ({ busy with pending := [.write 0x008 .word 0xFFFFFFFF] } : State).pending = .write 0x008 .word 0xFFFFFFFF :: [] ∧
    ({ busy with pending := [.write 0x01C .word 1] } : State).pending = .write 0x01C .word 1 :: [] ∧
    (0x100 ≤ (0x100 : ByteOffset).toNat ∧ (0x100 : ByteOffset).toNat % 4 = 0) ∧
    (0x100 ≤ (0x1FC : ByteOffset).toNat ∧ (0x1FC : ByteOffset).toNat % 4 = 0) := by decide

theorem witness_FrameSequenceBuildsEncoding :
    ([] : List Byte).length ≤ 254 ∧ (List.replicate 254 (0x00 : Byte)).length ≤ 254 := by decide +kernel
theorem witness_OverlongFrameKeepsFirst254Bytes : 254 < (List.replicate 255 (0x00 : Byte)).length := by decide +kernel
theorem witness_ResponseOutcomeAgreesWithSourceDecode :
    ([] : List Byte).length ≤ 512 ∧ (List.replicate 512 (0x11 : Byte)).length ≤ 512 := by decide +kernel
theorem witness_NibbleAlignmentIsSubstringTest :
    ([0x0F, 0xB0] : List Byte).length ≤ 512 ∧ (List.replicate 512 (0x11 : Byte)).length ≤ 512 := by decide +kernel
theorem witness_OverlongResponseKeepsFirst512Bytes : 512 < (List.replicate 513 (0x11 : Byte)).length := by decide +kernel

theorem witness_UidIsZeroAboveItsLength :
    Inv { State.reset with pending := [.write 0x004 .word 0x21000011] } ∧
    ((nextOf (step { State.reset with pending := [.write 0x004 .word 0x21000011] })).map
      (fun t => (regRead 0x07 t).extractLsb' 24 2)) = some 1 := by decide

theorem witness_UnitCommandsStayInTheirUnit :
    (∃ d, Instr.crcByte 0x00 = .crcByte d) ∧ (∃ d, Instr.setAddr 0x00 = .setAddr d ∨ Instr.setAddr 0x00 = .framePush d) ∧
    (∃ d, Instr.respByte 0x00 = .respByte d) := ⟨⟨_, rfl⟩, ⟨_, .inl rfl⟩, ⟨_, rfl⟩⟩

theorem witness_MarkerAnywhereExcludesUid :
    ([0x11, 0xFB, 0x33] : List Byte).length ≤ 512 ∧ (0xFB : Byte) ∈ ([0x11, 0xFB, 0x33] : List Byte) ∧
    (0xFE : Byte) ∈ ([0xFE] : List Byte) ∧
    Inv { State.reset with pending := [.write 0x004 .word 0x21000011] } ∧
    ((nextOf (step { State.reset with pending := [.write 0x004 .word 0x21000011] })).map
      (fun t => (regRead 0x07 t).extractLsb' 28 2)) = some 2 := by decide

/-- A response with a marker, for the second clause of ResultIsLiveAndMarkerSticks, and one byte without, for the third. -/
theorem witness_ResultIsLiveAndMarkerSticks :
    Inv { State.reset with rcount := 1, rlast := 0x0000FB, matched := true } ∧
    (regRead 0x07 { State.reset with rcount := 1, rlast := 0x0000FB, matched := true }).extractLsb' 28 2 = 1 ∧
    Instr.respStart ∉ [Instr.respByte 0x11, .crcInit] ∧ Instr.softReset ∉ [Instr.respByte 0x11, .crcInit] ∧
    ({ State.reset with rcount := 511, rlast := 0x111111 } : State).rcount.toNat < 512 ∧
    (regRead 0x07 { State.reset with rcount := 511, rlast := 0x111111 }).extractLsb' 28 2 = 2 ∧
    (∀ d, Instr.nop ≠ .respByte d) ∧ Instr.nop ≠ .respStart ∧ Instr.nop ≠ .softReset := by decide

theorem witness_UnitsDoNotInterfere :
    SameFrame busy { busy with crc := 0, rcount := 0 } ∧ SameMatcher busy { busy with crc := 0, fbuf := [] } ∧
    busy.err = ({ busy with crc := 0, rcount := 0 } : State).err := by simp [SameFrame, SameMatcher]

/-- Each flag rising and falling once, with the command that does it. -/
theorem witness_EachFlagHasItsWritersAndReaders :
    after State.sealed .frameSeal State.reset = some true ∧ after State.sealed .frameClear sealedFrame = some false ∧
    after State.matched (.respByte 0xFE) State.reset = some true ∧ after State.matched .respStart busy = some false ∧
    after State.ovf (.respByte 0) { State.reset with rcount := 512 } = some true ∧
    after State.ovf .respStart { State.reset with rcount := 512, ovf := true } = some false ∧
    after State.err .frameSeal sealedFrame = some 3 ∧ after State.err .clrErr busy = some 0 := by decide +kernel

/-- Each field changed once, with a command that does it. -/
theorem witness_EachFieldHasItsWriters :
    after State.crc .crcInit busy ≠ some busy.crc ∧ after State.addr .softReset busy ≠ some busy.addr ∧
    after State.fbuf .frameClear busy ≠ some busy.fbuf ∧ after State.rcount .respStart busy ≠ some busy.rcount ∧
    after State.err .clrErr busy ≠ some busy.err := by decide

end Sys2Proof.Tests
end

-- ==== Proofs: the host's step and the commands' equations ====
section
/-!
SUPPORT. What a step and an access can do, said once, and one equation per command and branch.
-/

namespace Sys2Proof.Machine

/-! States with the same block. -/

@[simp] theorem sameBlock_refl (s : State) : SameBlock s s := ⟨rfl, rfl, rfl, rfl, rfl, rfl, rfl, rfl, rfl⟩

/-- The host's side is no field of the block. -/
@[simp] theorem sameBlock_setHost (s : State) (es : List HostEvent) (v : Option Word) : SameBlock s (s.setHost es v) :=
  sameBlock_refl s

/-- Two states with the same block differ in the host's side alone. -/
theorem sameBlock_iff (s t : State) : SameBlock s t ↔ t = s.setHost t.pending t.reply := by
  constructor
  · rintro ⟨hcrc, haddr, hfbuf, hsealed, hrcount, hrlast, hmatched, hovf, herr⟩
    simp [State.setHost, hcrc, haddr, hfbuf, hsealed, hrcount, hrlast, hmatched, hovf, herr]
  · intro h
    rw [h]
    exact sameBlock_setHost s _ _

@[simp] theorem setHost_setHost (s : State) (es es' : List HostEvent) (v v' : Option Word) :
    (s.setHost es v).setHost es' v' = s.setHost es' v' := rfl

/-- No register shows the host's side. -/
@[simp] theorem regRead_setHost (w : WordOffset) (s : State) (es : List HostEvent) (v : Option Word) :
    regRead w (s.setHost es v) = regRead w s := by
  unfold regRead
  cases regAt w <;> rfl

/-- States with the same block read alike. -/
theorem regRead_congr {s t : State} (h : SameBlock s t) (w : WordOffset) : regRead w s = regRead w t := by
  rw [(sameBlock_iff s t).mp h, regRead_setHost]

/-! The register map. -/

/-- CMD is the only register at word offset 1 (10_state.md R35). -/
theorem regAt_eq_cmd_iff (w : WordOffset) : regAt w = .cmd ↔ w = 1 := by
  revert w; decide

/-- CMD's byte offset is the only aligned one with word offset 1. -/
theorem wordOffset_eq_cmd_iff (off : ByteOffset) (h : off.toNat % 4 = 0) : wordOffset off = 1 ↔ off = 0x004 := by
  revert off; decide

/-- The upper half of the window holds the frame's words (10_state.md R42). -/
theorem regAt_frame (w : WordOffset) (h : 64 ≤ w.toNat) : regAt w = .frame (BitVec.ofNat 6 (w.toNat - 64)) := by
  revert w; decide

@[simp] theorem regRead_param (s : State) : regRead 0x00 s = 0x8408FFFF := rfl
@[simp] theorem regRead_cmd (s : State) : regRead 0x01 s = 0 := rfl
@[simp] theorem regRead_status (s : State) : regRead 0x02 s = statusWord s := rfl
@[simp] theorem regRead_crc (s : State) : regRead 0x03 s = zext 32 s.crc := rfl
@[simp] theorem regRead_addr (s : State) : regRead 0x04 s = zext 32 s.addr := rfl
@[simp] theorem regRead_flen (s : State) : regRead 0x05 s = BitVec.ofNat 32 s.fbuf.length := rfl
@[simp] theorem regRead_rcount (s : State) : regRead 0x06 s = zext 32 s.rcount := rfl
@[simp] theorem regRead_result (s : State) : regRead 0x07 s = resultWord fcb s := rfl

theorem regRead_frame (s : State) (w : WordOffset) (h : 64 ≤ w.toNat) : regRead w s = frameWord s (w.toNat - 64) := by
  have hk : (w.toNat - 64) % 2 ^ 6 = w.toNat - 64 := Nat.mod_eq_of_lt (by omega)
  simp only [regRead, regAt_frame w h, readReg, BitVec.toNat_ofNat, hk]

/-- The frame word at an index of 10_state.md R42. -/
theorem regRead_frame_ofNat (s : State) (k : Nat) (h : k < 64) : regRead (BitVec.ofNat 7 (64 + k)) s = frameWord s k := by
  have hw : (BitVec.ofNat 7 (64 + k)).toNat = 64 + k := Nat.mod_eq_of_lt (by omega)
  rw [regRead_frame s _ (by omega), hw, Nat.add_sub_cancel_left]

/-! One step. -/

theorem step_of_no_event {s : State} (h : s.pending = []) : step s = .next s := by
  simp [step, h, idle]

theorem step_of_event {s : State} {e : HostEvent} {rest : List HostEvent} (h : s.pending = e :: rest) :
    step s = serve e (s.setHost rest s.reply) := by
  simp [step, h]

/-- A read answers the register and moves the host's side on (20_memory.md R52). -/
theorem step_read {s : State} {off : ByteOffset} {rest : List HostEvent} (h : s.pending = .read off .word :: rest)
    (ha : off.toNat % 4 = 0) : step s = .next (s.setHost rest (some (regRead (wordOffset off) s))) := by
  simp [step_of_event h, serve, (expressible_iff off .word).mpr ⟨ha, rfl⟩]

/-- A write to CMD executes its word (20_memory.md R53). -/
theorem step_write_cmd {s : State} {w : Word} {rest : List HostEvent} (h : s.pending = .write 0x004 .word w :: rest) :
    step s = execute w (s.setHost rest none) := by
  rw [step_of_event h]
  rfl

/-- A write to any other register is ignored (20_memory.md R53). -/
theorem regWrite_of_ne_cmd {w : WordOffset} (h : w ≠ 1) (v : Word) (s : State) : regWrite w v s = .next s := by
  have hr : regAt w ≠ .cmd := fun hc => h ((regAt_eq_cmd_iff w).mp hc)
  unfold regWrite
  split
  · contradiction
  · rfl

theorem step_write_other {s : State} {off : ByteOffset} {v : Word} {rest : List HostEvent}
    (h : s.pending = .write off .word v :: rest) (ha : off.toNat % 4 = 0) (hc : off ≠ 0x004) :
    step s = .next (s.setHost rest none) := by
  have hw : wordOffset off ≠ 1 := fun hw => hc ((wordOffset_eq_cmd_iff off ha).mp hw)
  simp [step_of_event h, serve, (expressible_iff off .word).mpr ⟨ha, rfl⟩, regWrite_of_ne_cmd hw]

theorem step_reset {s : State} {rest : List HostEvent} (h : s.pending = .reset :: rest) :
    step s = .next (State.reset.setHost rest none) := by
  rw [step_of_event h]
  rfl

/-- Every aligned register but CMD is read-only. -/
theorem readOnlyAt_of_ne_cmd {off : ByteOffset} (ha : off.toNat % 4 = 0) (hc : off ≠ 0x004) : ReadOnlyAt off :=
  fun _ _ _ h => step_write_other h ha hc

/-- An event that is not served is refused (20_memory.md R51). -/
theorem step_of_not_served {s : State} {e : HostEvent} {rest : List HostEvent} (h : s.pending = e :: rest)
    (he : ¬ Served e) : step s = .refused .inexpressibleAccess := by
  rw [step_of_event h]
  cases e with
  | read off size => exact if_neg fun hx => he ((expressible_iff off size).mp hx)
  | write off size v => exact if_neg fun hx => he ((expressible_iff off size).mp hx)
  | reset => exact absurd trivial he

/-- All a step that answers a next state can have done. -/
theorem step_cases {s t : State} (h : step s = .next t) :
    (s.pending = [] ∧ t = s) ∨
    (∃ off rest, s.pending = .read off .word :: rest ∧ off.toNat % 4 = 0 ∧
      t = s.setHost rest (some (regRead (wordOffset off) s))) ∨
    (∃ off v rest, s.pending = .write off .word v :: rest ∧ off.toNat % 4 = 0 ∧ off ≠ 0x004 ∧ t = s.setHost rest none) ∨
    (∃ w rest, s.pending = .write 0x004 .word w :: rest ∧ execute w (s.setHost rest none) = .next t) ∨
    (∃ rest, s.pending = .reset :: rest ∧ t = State.reset.setHost rest none) := by
  cases hp : s.pending with
  | nil =>
    rw [step_of_no_event hp] at h
    exact .inl ⟨rfl, (Host.Outcome.next.inj h).symm⟩
  | cons e rest =>
    have he : Served e := by
      by_contra he
      rw [step_of_not_served hp he] at h
      contradiction
    cases e with
    | read off size =>
      obtain ⟨ha, rfl⟩ := he
      rw [step_read hp ha] at h
      exact .inr (.inl ⟨off, rest, rfl, ha, (Host.Outcome.next.inj h).symm⟩)
    | write off size v =>
      obtain ⟨ha, rfl⟩ := he
      by_cases hc : off = 0x004
      · subst hc
        rw [step_write_cmd hp] at h
        exact .inr (.inr (.inr (.inl ⟨v, rest, rfl, h⟩)))
      · rw [step_write_other hp ha hc] at h
        exact .inr (.inr (.inl ⟨off, v, rest, rfl, ha, hc, (Host.Outcome.next.inj h).symm⟩))
    | reset =>
      rw [step_reset hp] at h
      exact .inr (.inr (.inr (.inr ⟨rest, rfl, (Host.Outcome.next.inj h).symm⟩)))

/-! The commands, one equation per branch. -/

section
variable (s : State)

@[simp] theorem exec_nop : exec .nop s = .next s := rfl
@[simp] theorem exec_crcInit : exec .crcInit s = .next (s.setCrc 0xFFFF) := rfl
@[simp] theorem exec_crcByte (d : Byte) : exec (.crcByte d) s = .next (s.setCrc (crcStep fcb s.crc d)) := rfl
@[simp] theorem exec_setAddr (a : Byte) : exec (.setAddr a) s = .next (s.setAddr a) := rfl
@[simp] theorem exec_frameClear : exec .frameClear s = .next (s.setFrame [] false) := rfl
@[simp] theorem exec_respStart : exec .respStart s = .next (clearResponse s) := rfl
@[simp] theorem exec_respByte (d : Byte) : exec (.respByte d) s = .next (acceptByte fcb d s) := rfl
@[simp] theorem exec_clrErr : exec .clrErr s = .next (clearErr s) := rfl
@[simp] theorem exec_softReset : exec .softReset s = .next (resetBlock s) := rfl

variable {s}

theorem exec_framePush_of_sealed (d : Byte) (h : s.sealed = true) :
    exec (.framePush d) s = .next (raiseErr .sealed s) := if_pos h

theorem exec_framePush_of_full (d : Byte) (h : s.sealed = false) (hl : s.fbuf.length = 254) :
    exec (.framePush d) s = .next (raiseErr .full s) := by
  simp [exec, execFramePush, h, hl]

theorem exec_framePush_of_room (d : Byte) (h : s.sealed = false) (hl : s.fbuf.length ≠ 254) :
    exec (.framePush d) s = .next (s.setFrame (s.fbuf ++ [d]) false) := by
  simp [exec, execFramePush, h, hl]

theorem exec_frameSeal_of_sealed (h : s.sealed = true) : exec .frameSeal s = .next (raiseErr .sealed s) := if_pos h

theorem exec_frameSeal_of_open (h : s.sealed = false) :
    exec .frameSeal s = .next (s.setFrame (encodeFrame fcb s.fbuf) true) := by
  simp [exec, execFrameSeal, h]

theorem exec_frameBuild_of_none {n : Byte} (h : templateBytes fcb n s.addr = none) :
    exec (.frameBuild n) s = .next (raiseErr .template s) := by
  simp [exec, execFrameBuild, h]

theorem exec_frameBuild_of_some {n : Byte} {bs : List Byte} (h : templateBytes fcb n s.addr = some bs) :
    exec (.frameBuild n) s = .next (s.setFrame (encodeFrame fcb bs) true) := by
  simp [exec, execFrameBuild, h]

end

end Sys2Proof.Machine
end

-- ==== Proofs: the invariant over a step (10_state.md R25, R26, R28) ====
section
/-!
SUPPORT. Each update of the block keeps its part of the invariant, so each command does, and so does every step.
-/

namespace Sys2Proof.Machine

/-! The parts of the invariant read the block's fields alone. -/

theorem inv_congr {s t : State} (h : SameBlock s t) : Inv s ↔ Inv t := by
  rw [(sameBlock_iff s t).mp h]
  exact Iff.rfl

theorem inv_reset : Inv State.reset := by decide

/-- An update of the frame leaves the other two parts as they are. -/
theorem inv_setFrame {s : State} {bs : List Byte} {closed : Bool} (hs : Inv s) (h : FrameInv (s.setFrame bs closed)) :
    Inv (s.setFrame bs closed) := by
  obtain ⟨-, hresp, herr⟩ := hs
  exact ⟨h, hresp, herr⟩

/-! The error record. -/

/-- A raised code is one of 1 to 4 (60_exceptions.md R201). -/
theorem inv_raiseErr {s : State} (e : ErrCode) (hs : Inv s) : Inv (raiseErr e s) := by
  obtain ⟨hframe, hresp, herr⟩ := hs
  rw [raiseErr_eq]
  refine ⟨hframe, hresp, ?_⟩
  unfold ErrInv
  split
  · exact (errCode_range e).2
  · exact herr

theorem inv_clearErr {s : State} (hs : Inv s) : Inv (clearErr s) := by
  obtain ⟨hframe, hresp, -⟩ := hs
  exact ⟨hframe, hresp, Nat.zero_le 4⟩

/-! The frame. -/

/-- An open frame that leaves room for its checksum. -/
theorem frameInv_open (s : State) {bs : List Byte} (h : bs.length ≤ 254) : FrameInv (s.setFrame bs false) :=
  ⟨h.trans (by decide), fun _ => h, nofun⟩

/-- The encoding of a payload is a sealed frame that fits. -/
theorem frameInv_encodeFrame (s : State) {bs : List Byte} (h : bs.length ≤ 254) :
    FrameInv (s.setFrame (encodeFrame fcb bs) true) := by
  have hlen : (encodeFrame fcb bs).length = bs.length + 2 := encodeFrame_length fcb bs
  have htake : (encodeFrame fcb bs).take ((encodeFrame fcb bs).length - 2) = bs := encodeFrame_take fcb bs
  refine ⟨?_, nofun, fun _ => ⟨?_, ?_⟩⟩
  · simp [hlen, h]
  · simp [hlen]
  · simp [htake]

/-- Every template's payload fits (41_frame.md R121). -/
theorem templateBytes_length {n a : Byte} {bs : List Byte} (h : templateBytes fcb n a = some bs) : bs.length ≤ 5 := by
  obtain ⟨-, h'⟩ | ⟨-, h'⟩ | ⟨-, h'⟩ := templateBytes_fcb n a
  · rw [h', Option.some.injEq] at h
    simp [← h]
  · rw [h', Option.some.injEq] at h
    simp [← h]
  · rw [h'] at h
    contradiction

/-! The matcher. -/

/-- This hardware's marker test is the byte test (42_match.md R153). -/
theorem markerHit_fcb (n : BitVec 10) (r : BitVec 24) (d : Byte) : markerHit fcb n r d = isMarker fcb d := by
  simp [markerHit, fcb]

/-- With fewer than three bytes accepted, the newest one leaves zeros above the accepted bytes (10_state.md R28). -/
theorem shiftIn_lt {r : BitVec 24} {n : Nat} (d : Byte) (hn : n < 2) (hr : r.toNat < 2 ^ (8 * n)) :
    (shiftIn r d).toNat < 2 ^ (8 * (n + 1)) := by
  have hr' : r.toNat <<< 8 < 2 ^ (8 * (n + 1)) := by
    rw [Nat.shiftLeft_eq, Nat.mul_add, Nat.pow_add]
    omega
  have hd : (d.setWidth 24).toNat < 2 ^ (8 * (n + 1)) := by
    have h256 : (2 : Nat) ^ 8 ≤ 2 ^ (8 * (n + 1)) := Nat.pow_le_pow_right (by decide) (by omega)
    rw [BitVec.toNat_setWidth]
    have := d.isLt
    omega
  simp only [shiftIn, zext, BitVec.toNat_or, BitVec.toNat_shiftLeft]
  exact Nat.or_lt_two_pow ((Nat.mod_le _ _).trans_lt hr') hd

/-- No marker enters the last bytes when the newest byte is none (42_match.md R158). -/
theorem byteAt_shiftIn_not_marker {r : BitVec 24} {d : Byte} (hr : ∀ j < 3, byteAt r j ≠ 0xFB ∧ byteAt r j ≠ 0xFE)
    (hd : d ≠ 0xFB ∧ d ≠ 0xFE) : ∀ j < 3, byteAt (shiftIn r d) j ≠ 0xFB ∧ byteAt (shiftIn r d) j ≠ 0xFE
  | 0, _ => by rw [byteAt_shiftIn_zero]; exact hd
  | j + 1, hj => by rw [byteAt_shiftIn_succ r d j (by omega)]; exact hr j (by omega)

/-- Beginning a response leaves the matcher as reset does (42_match.md R151). -/
theorem inv_clearResponse {s : State} (hs : Inv s) : Inv (clearResponse s) := by
  obtain ⟨hframe, -, herr⟩ := hs
  obtain ⟨-, hresp, -⟩ := inv_reset
  exact ⟨hframe, hresp, herr⟩

/-- A byte is dropped at 512, else tested, shifted in and counted (42_match.md R152). -/
theorem inv_acceptByte {s : State} (d : Byte) (hs : Inv s) : Inv (acceptByte fcb d s) := by
  obtain ⟨hframe, ⟨hcount, hzero, hmatch, hovf, hmark⟩, herr⟩ := hs
  obtain ⟨hfull, heq⟩ | ⟨hroom, heq⟩ := acceptByte_cases fcb d s
  · rw [heq]
    exact ⟨hframe, ⟨hcount, hzero, hmatch, fun _ => congrArg BitVec.toNat hfull, hmark⟩, herr⟩
  · have hlt : s.rcount.toNat < 512 :=
      Nat.lt_of_le_of_ne hcount fun h => hroom (BitVec.eq_of_toNat_eq h)
    have hnext : (s.rcount + 1).toNat = s.rcount.toNat + 1 := BitVec.toNat_add_of_lt (by simp; omega)
    rw [heq]
    refine ⟨hframe, ⟨?count, ?zero, ?matched, ?ovf, ?marker⟩, herr⟩
    case count => simp only [hnext]; omega
    case zero =>
      simp only [hnext]
      exact fun h => shiftIn_lt d (by omega) (hzero (by omega))
    case matched =>
      intro _ h
      have : (s.rcount + 1).toNat = 0 := congrArg BitVec.toNat h
      omega
    case ovf =>
      intro h
      have := hovf h
      omega
    case marker =>
      intro h
      obtain ⟨hm, hd⟩ := Bool.or_eq_false_iff.mp h
      rw [markerHit_fcb, Bool.eq_false_iff, ne_eq, isMarker_fcb, not_or] at hd
      exact byteAt_shiftIn_not_marker (hmark hm) hd

/-! The commands and the step. -/

theorem inv_exec (i : Instr) {s : State} (hs : Inv s) : ∃ t, exec i s = .next t ∧ Inv t := by
  have ⟨⟨_, hopen, _⟩, _, _⟩ := hs
  cases i with
  | nop => exact ⟨_, exec_nop s, hs⟩
  | crcInit => exact ⟨_, exec_crcInit s, hs⟩
  | crcByte d => exact ⟨_, exec_crcByte s d, hs⟩
  | setAddr a => exact ⟨_, exec_setAddr s a, hs⟩
  | frameClear => exact ⟨_, exec_frameClear s, inv_setFrame hs (frameInv_open s (by decide))⟩
  | framePush d =>
    cases hsealed : s.sealed with
    | true => exact ⟨_, exec_framePush_of_sealed d hsealed, inv_raiseErr .sealed hs⟩
    | false =>
      by_cases hfull : s.fbuf.length = 254
      · exact ⟨_, exec_framePush_of_full d hsealed hfull, inv_raiseErr .full hs⟩
      · have hlen : (s.fbuf ++ [d]).length ≤ 254 := by
          have := hopen hsealed
          simp only [List.length_append, List.length_singleton]
          omega
        exact ⟨_, exec_framePush_of_room d hsealed hfull, inv_setFrame hs (frameInv_open s hlen)⟩
  | frameSeal =>
    cases hsealed : s.sealed with
    | true => exact ⟨_, exec_frameSeal_of_sealed hsealed, inv_raiseErr .sealed hs⟩
    | false =>
      exact ⟨_, exec_frameSeal_of_open hsealed, inv_setFrame hs (frameInv_encodeFrame s (hopen hsealed))⟩
  | frameBuild n =>
    cases htpl : templateBytes fcb n s.addr with
    | none => exact ⟨_, exec_frameBuild_of_none htpl, inv_raiseErr .template hs⟩
    | some bs =>
      have hlen : bs.length ≤ 254 := (templateBytes_length htpl).trans (by decide)
      exact ⟨_, exec_frameBuild_of_some htpl, inv_setFrame hs (frameInv_encodeFrame s hlen)⟩
  | respStart => exact ⟨_, exec_respStart s, inv_clearResponse hs⟩
  | respByte d => exact ⟨_, exec_respByte s d, inv_acceptByte d hs⟩
  | clrErr => exact ⟨_, exec_clrErr s, inv_clearErr hs⟩
  | softReset => exact ⟨_, exec_softReset s, inv_reset⟩

theorem inv_execute {w : Word} {s t : State} (hs : Inv s) (h : execute w s = .next t) : Inv t := by
  cases hw : decode w with
  | legal i =>
    obtain ⟨u, hu, hinv⟩ := inv_exec i hs
    rw [execute_of_legal w i s hw, hu] at h
    exact Host.Outcome.next.inj h ▸ hinv
  | illegal why =>
    rw [execute_of_illegal w why s hw] at h
    exact Host.Outcome.next.inj h ▸ inv_raiseErr .illegal hs

/-- Settles O39: of the five things a step can do, only the run of a command word touches the block of a state with the invariant,
and the reset input leaves the reset block. -/
theorem everyStepKeepsInvariant : Obligations.EveryStepKeepsInvariant := by
  intro s t hs hstep
  obtain ⟨-, rfl⟩ | ⟨off, rest, -, -, rfl⟩ | ⟨off, v, rest, -, -, -, rfl⟩ | ⟨w, rest, -, hexec⟩ | ⟨rest, -, rfl⟩ :=
    step_cases hstep
  · exact hs
  · exact (inv_congr (sameBlock_setHost s _ _)).mp hs
  · exact (inv_congr (sameBlock_setHost s _ _)).mp hs
  · exact inv_execute ((inv_congr (sameBlock_setHost s rest none)).mp hs) hexec
  · exact (inv_congr (sameBlock_setHost State.reset rest none)).mp inv_reset

end Sys2Proof.Machine
end

-- ==== Proofs: the registers' fields (10_state.md section 4) ====
section
/-!
SUPPORT. A register's word is an `or` of shifted fields: reading a field back gives its value, and reading beside it gives 0.
-/

namespace Sys2Proof.Machine

/-! Fields of a word. -/

/-- A field is read back from its own place. -/
theorem extract_field_same {n m : Nat} (v : BitVec n) (k : Nat) (h : k + n ≤ m) :
    (zext m v <<< k).extractLsb' k n = v := by
  ext i hi
  have hm : k + i < m := by omega
  simp [zext, hm, hi]

/-- A field leaves the bits beside its place 0. -/
theorem extract_field_other {n m : Nat} (v : BitVec n) (k j l : Nat) (h : j + l ≤ k ∨ k + n ≤ j) :
    (zext m v <<< k).extractLsb' j l = 0 := by
  ext i hi
  simp only [zext, BitVec.getElem_extractLsb', BitVec.getLsbD_shiftLeft, BitVec.getLsbD_setWidth]
  obtain hbelow | habove := h
  · have : j + i < k := by omega
    simp [this]
  · have : v.getLsbD (j + i - k) = false := BitVec.getLsbD_of_ge v _ (by omega)
    simp [this]

/-- A field at bit 0 is read back from there. -/
theorem extract_zext_same {n m : Nat} (v : BitVec n) (h : n ≤ m) : (zext m v).extractLsb' 0 n = v := by
  simpa using extract_field_same v 0 (by omega : 0 + n ≤ m)

/-- A field at bit 0 leaves the bits above it 0. -/
theorem extract_zext_above {n m : Nat} (v : BitVec n) (j l : Nat) (h : n ≤ j) : (zext m v).extractLsb' j l = 0 := by
  simpa using extract_field_other (m := m) v 0 j l (.inr (by omega))

/-- Bit `k` is the field of width 1 there. -/
theorem getLsbD_eq_of_extract {m : Nat} {x : BitVec m} {k : Nat} {b : Bool} (h : x.extractLsb' k 1 = BitVec.ofBool b) :
    x.getLsbD k = b := by
  simpa using congrArg (fun v => v.getLsbD 0) h

/-! STATUS (10_state.md R36). -/

theorem statusWord_err (s : State) : (statusWord s).extractLsb' 0 4 = s.err := by
  simp [statusWord, BitVec.extractLsb'_or, extract_zext_same, extract_field_other]

theorem statusWord_sealed (s : State) : (statusWord s).getLsbD 4 = s.sealed := by
  apply getLsbD_eq_of_extract
  simp [statusWord, BitVec.extractLsb'_or, extract_zext_above, extract_field_same, extract_field_other]

theorem statusWord_ovf (s : State) : (statusWord s).getLsbD 5 = s.ovf := by
  apply getLsbD_eq_of_extract
  simp [statusWord, BitVec.extractLsb'_or, extract_zext_above, extract_field_same, extract_field_other]

theorem statusWord_matched (s : State) : (statusWord s).getLsbD 6 = s.matched := by
  apply getLsbD_eq_of_extract
  simp [statusWord, BitVec.extractLsb'_or, extract_zext_above, extract_field_same, extract_field_other]

theorem statusWord_zero_above (s : State) : (statusWord s).extractLsb' 7 25 = 0 := by
  simp [statusWord, BitVec.extractLsb'_or, extract_zext_above, extract_field_other]

/-! RESULT (10_state.md R41, 42_match.md R154, R155). -/

/-- RESULT as fields: UID_LEN takes two bits. -/
theorem resultWord_fcb (s : State) :
    resultWord fcb s = (zext 32 (classCode (classify s)) <<< 28) ||| (zext 32 (BitVec.ofNat 2 (uidLen fcb s)) <<< 24) |||
      zext 32 s.rlast := by
  have hlen : uidLen fcb s ≤ 3 := Nat.min_le_right _ _
  have hword : BitVec.ofNat 32 (uidLen fcb s) = zext 32 (BitVec.ofNat 2 (uidLen fcb s)) := by
    apply BitVec.eq_of_toNat_eq
    simp only [zext, BitVec.toNat_setWidth, BitVec.toNat_ofNat]
    omega
  rw [resultWord, hword]

theorem resultWord_uid (s : State) : (resultWord fcb s).extractLsb' 0 24 = s.rlast := by
  simp [resultWord_fcb, BitVec.extractLsb'_or, extract_zext_same, extract_field_other]

theorem resultWord_uidLen (s : State) : ((resultWord fcb s).extractLsb' 24 2).toNat = min s.rcount.toNat 3 := by
  have hfield : (resultWord fcb s).extractLsb' 24 2 = BitVec.ofNat 2 (uidLen fcb s) := by
    simp [resultWord_fcb, BitVec.extractLsb'_or, extract_zext_above, extract_field_same, extract_field_other]
  have hlen : uidLen fcb s = min s.rcount.toNat 3 := rfl
  rw [hfield, hlen, BitVec.toNat_ofNat]
  exact Nat.mod_eq_of_lt (by omega)

theorem resultWord_class (s : State) : (resultWord fcb s).extractLsb' 28 2 = classCode (classify s) := by
  simp [resultWord_fcb, BitVec.extractLsb'_or, extract_zext_above, extract_field_same, extract_field_other]

theorem resultWord_zero_between (s : State) : (resultWord fcb s).extractLsb' 26 2 = 0 := by
  simp [resultWord_fcb, BitVec.extractLsb'_or, extract_zext_above, extract_field_other]

theorem resultWord_zero_above (s : State) : (resultWord fcb s).extractLsb' 30 2 = 0 := by
  simp [resultWord_fcb, BitVec.extractLsb'_or, extract_zext_above, extract_field_other]

/-- The class by the matcher's fields (42_match.md R154). -/
theorem classCode_classify (s : State) :
    classCode (classify s) = if s.rcount = 0 then 0 else if s.matched then 1 else 2 := by
  unfold classify
  split
  · rfl
  · split <;> rfl

/-- Code 3 never occurs (42_match.md R154). -/
theorem classCode_ne_three (c : ResponseClass) : classCode c ≠ 3 := by
  cases c <;> decide

/-! The frame window (10_state.md R42). -/

theorem frameByte_eq (s : State) (i : Nat) :
    frameByte s i = if h : i < s.fbuf.length then s.fbuf[i] else 0x00 := by
  unfold frameByte
  split
  next h => exact List.getD_eq_getElem _ _ h
  next h => exact List.getD_eq_default _ _ (Nat.le_of_not_lt h)

theorem frameWord_byte (s : State) (k : Nat) : ∀ j < 4, (frameWord s k).extractLsb' (8 * j) 8 = frameByte s (4 * k + j)
  | 0, _ => by simp [frameWord, BitVec.extractLsb'_or, extract_zext_same, extract_field_other]
  | 1, _ => by simp [frameWord, BitVec.extractLsb'_or, extract_zext_above, extract_field_same, extract_field_other]
  | 2, _ => by simp [frameWord, BitVec.extractLsb'_or, extract_zext_above, extract_field_same, extract_field_other]
  | 3, _ => by simp [frameWord, BitVec.extractLsb'_or, extract_zext_above, extract_field_same, extract_field_other]

/-- Frame byte `n` stands in byte `n % 4` of word `n / 4` of the window. -/
theorem regRead_frame_byte (s : State) (n : Nat) (h : n < 256) :
    (regRead (BitVec.ofNat 7 (64 + n / 4)) s).extractLsb' (8 * (n % 4)) 8 = frameByte s n := by
  rw [regRead_frame_ofNat s (n / 4) (by omega), frameWord_byte s (n / 4) (n % 4) (by omega), Nat.div_add_mod]

/-- An empty frame shows zeros in the whole window. -/
theorem frameWord_of_empty {s : State} (h : s.fbuf = []) (k : Nat) : frameWord s k = 0 := by
  simp [frameWord, frameByte, h, zext]

end Sys2Proof.Machine
end

-- ==== Proofs: the statements about the state ====
section
/-!
The obligations of 10_state.md, each put together from the rules above.
-/

namespace Sys2Proof.Machine

/-- Settles O31: CMD is the one register whose write runs anything. -/
theorem onlyCmdWritesChangeBlock : Obligations.OnlyCmdWritesChangeBlock := by
  refine ⟨fun s w rest h => step_write_cmd h, fun s rest h => step_read h (by decide), ?_⟩
  intro s e rest h hserved hreset hcmd
  cases e with
  | read off size =>
    obtain ⟨ha, rfl⟩ := hserved
    exact ⟨_, step_read h ha, sameBlock_setHost s _ _, rfl⟩
  | write off size v =>
    obtain ⟨ha, rfl⟩ := hserved
    have hc : off ≠ 0x004 := fun hc => hcmd v (hc ▸ rfl)
    exact ⟨_, step_write_other h ha hc, sameBlock_setHost s _ _, rfl⟩
  | reset => contradiction

/-- Settles O33, field by field from `resultWord_fcb`. -/
theorem resultFields : Obligations.ResultFields := by
  refine ⟨readOnlyAt_of_ne_cmd (by decide) (by decide), fun s => ?_⟩
  rw [regRead_result]
  refine ⟨resultWord_uid s, resultWord_uidLen s, resultWord_zero_between s, ?_, ?_, resultWord_zero_above s⟩
  · rw [resultWord_class, classCode_classify]
  · rw [resultWord_class]
    exact classCode_ne_three (classify s)

/-- Settles O34: a window word is the four frame bytes at its index. -/
theorem frameWindowBytes : Obligations.FrameWindowBytes := by
  constructor
  · intro off hlow ha
    refine readOnlyAt_of_ne_cmd ha ?_
    rintro rfl
    exact absurd hlow (by decide)
  · intro s k hk j hj
    rw [regRead_frame_ofNat s k hk, frameWord_byte s k j hj, frameByte_eq]

/-- Settles O36: the nine fields are functions of the reads, so reads that agree give fields that agree. -/
theorem noHiddenState : Obligations.NoHiddenState := by
  refine (and_iff_left_of_imp ?alike).mpr ?fields
  case fields =>
    intro s hs
    refine ⟨(extract_zext_same s.crc (by decide)).symm, (extract_zext_same s.addr (by decide)).symm, ?flen, ?bytes,
      (statusWord_sealed s).symm, (statusWord_ovf s).symm, (statusWord_matched s).symm, (statusWord_err s).symm,
      (extract_zext_same s.rcount (by decide)).symm, (resultWord_uid s).symm⟩
    case flen =>
      rw [regRead_flen, BitVec.toNat_ofNat]
      exact (Nat.mod_eq_of_lt (by omega)).symm
    case bytes =>
      intro n hn
      rw [regRead_frame_byte s n (by omega), frameByte_eq, dif_pos hn]
  case alike =>
    intro hfields s t hs ht hread
    obtain ⟨hcrc, haddr, hflen, hbytes, hsealed, hovf, hmatched, herr, hrcount, hrlast⟩ := hfields s hs
    obtain ⟨hcrc', haddr', hflen', hbytes', hsealed', hovf', hmatched', herr', hrcount', hrlast'⟩ := hfields t ht
    simp only [hread] at hcrc haddr hflen hbytes hsealed hovf hmatched herr hrcount hrlast
    have hfbuf : s.fbuf = t.fbuf :=
      List.ext_getElem (hflen.trans hflen'.symm) fun n hn hn' => (hbytes n hn).trans (hbytes' n hn').symm
    exact ⟨hcrc.trans hcrc'.symm, haddr.trans haddr'.symm, hfbuf, hsealed.trans hsealed'.symm,
      hrcount.trans hrcount'.symm, hrlast.trans hrlast'.symm, hmatched.trans hmatched'.symm, hovf.trans hovf'.symm,
      herr.trans herr'.symm⟩

/-- Settles O32, field by field from the layout of `statusWord`. -/
theorem statusBits : Obligations.StatusBits :=
  ⟨readOnlyAt_of_ne_cmd (by decide) (by decide), fun s =>
    ⟨statusWord_err s, statusWord_sealed s, statusWord_ovf s, statusWord_matched s, statusWord_zero_above s⟩⟩

/-- Settles O37: both resets leave the reset block, and states with the same block read alike. -/
theorem resetValuesAndReads : Obligations.ResetValuesAndReads := by
  refine ⟨rfl, rfl, rfl, rfl, rfl, rfl, rfl, rfl, rfl, ?_, ?_, ?_⟩
  · intro s rest h
    exact ⟨_, step_reset h, sameBlock_refl State.reset, rfl⟩
  · intro s
    exact ⟨_, exec_softReset s, sameBlock_refl State.reset⟩
  · intro s h
    simp only [regRead_congr h]
    refine ⟨rfl, rfl, rfl, rfl, rfl, rfl, rfl, fun w hw => ?_⟩
    rw [regRead_frame State.reset w hw, frameWord_of_empty rfl]

end Sys2Proof.Machine
end

-- ==== Proofs: an access's value, a command's host side, and commands in a row ====
section
/-!
SUPPORT. What a read returns at a byte offset, that no command reaches the host's side, and the run of a host's command writes.
-/

namespace Sys2Proof.Machine

/-! Reads. -/

/-- The register an aligned byte offset names (20_memory.md R50). -/
theorem regAt_wordOffset {off : ByteOffset} (ha : off.toNat % 4 = 0) : regAt (wordOffset off) = regAtByte off.toNat :=
  congrArg regAtByte (wordOffset_spec off ha)

/-- A frame word's index fits the six bits of its register. -/
theorem readReg_frame_index (s : State) (off : ByteOffset) :
    readReg (.frame (BitVec.ofNat 6 ((off.toNat - 0x100) / 4))) s = frameWord s ((off.toNat - 0x100) / 4) := by
  have hk : (off.toNat - 0x100) / 4 % 2 ^ 6 = (off.toNat - 0x100) / 4 := Nat.mod_eq_of_lt (by omega)
  simp only [readReg, BitVec.toNat_ofNat, hk]

/-- At each aligned offset the register map and the case list of 20_memory.md R53 give the same value: both test the offset against
the same bounds in the same order. -/
theorem regRead_wordOffset (s : State) {off : ByteOffset} (ha : off.toNat % 4 = 0) :
    regRead (wordOffset off) s = windowValue s off := by
  rw [regRead, regAt_wordOffset ha]
  simp only [regAtByte, windowValue, apply_ite (readReg · s), readReg_frame_index, ← BitVec.toNat_inj]
  rfl

/-! No command reaches the host's side. -/

@[simp] theorem raiseErr_setHost (e : ErrCode) (s : State) (es : List HostEvent) (v : Option Word) :
    raiseErr e (s.setHost es v) = (raiseErr e s).setHost es v := by
  rw [raiseErr, raiseErr, apply_ite (State.setHost · es v)]
  rfl

@[simp] theorem acceptByte_setHost (cfg : Config) (d : Byte) (s : State) (es : List HostEvent) (v : Option Word) :
    acceptByte cfg d (s.setHost es v) = (acceptByte cfg d s).setHost es v := by
  rw [acceptByte, acceptByte, apply_ite (State.setHost · es v)]
  rfl

/-- Every command completes, and it neither reads nor writes the host's side: with another list and another returned value it does
the same to the block and leaves these as they are. -/
theorem exec_commutes_setHost (i : Instr) (s : State) :
    ∃ t, exec i s = .next t ∧ ∀ es v, exec i (s.setHost es v) = .next (t.setHost es v) := by
  cases i with
  | nop => exact ⟨_, exec_nop s, fun _ _ => rfl⟩
  | crcInit => exact ⟨_, exec_crcInit s, fun _ _ => rfl⟩
  | crcByte d => exact ⟨_, exec_crcByte s d, fun _ _ => rfl⟩
  | setAddr a => exact ⟨_, exec_setAddr s a, fun _ _ => rfl⟩
  | frameClear => exact ⟨_, exec_frameClear s, fun _ _ => rfl⟩
  | framePush d =>
    cases hsealed : s.sealed with
    | true =>
      refine ⟨_, exec_framePush_of_sealed d hsealed, fun es v => ?_⟩
      rw [exec_framePush_of_sealed d (by simpa using hsealed), raiseErr_setHost]
    | false =>
      by_cases hfull : s.fbuf.length = 254
      · refine ⟨_, exec_framePush_of_full d hsealed hfull, fun es v => ?_⟩
        rw [exec_framePush_of_full d (by simpa using hsealed) (by simpa using hfull), raiseErr_setHost]
      · refine ⟨_, exec_framePush_of_room d hsealed hfull, fun es v => ?_⟩
        exact exec_framePush_of_room (s := s.setHost es v) d hsealed hfull
  | frameSeal =>
    cases hsealed : s.sealed with
    | true =>
      refine ⟨_, exec_frameSeal_of_sealed hsealed, fun es v => ?_⟩
      rw [exec_frameSeal_of_sealed (by simpa using hsealed), raiseErr_setHost]
    | false => exact ⟨_, exec_frameSeal_of_open hsealed, fun es v => exec_frameSeal_of_open (s := s.setHost es v) hsealed⟩
  | frameBuild n =>
    cases htpl : templateBytes fcb n s.addr with
    | none =>
      refine ⟨_, exec_frameBuild_of_none htpl, fun es v => ?_⟩
      rw [exec_frameBuild_of_none (by simpa using htpl), raiseErr_setHost]
    | some bs => exact ⟨_, exec_frameBuild_of_some htpl, fun es v => exec_frameBuild_of_some (s := s.setHost es v) htpl⟩
  | respStart => exact ⟨_, exec_respStart s, fun _ _ => rfl⟩
  | respByte d =>
    refine ⟨_, exec_respByte s d, fun es v => ?_⟩
    rw [exec_respByte, acceptByte_setHost]
  | clrErr => exact ⟨_, exec_clrErr s, fun _ _ => rfl⟩
  | softReset => exact ⟨_, exec_softReset s, fun _ _ => rfl⟩

/-- The host's list and the value returned to the host are left by every command. -/
theorem exec_keeps_host (i : Instr) (s : State) :
    ∃ t, exec i s = .next t ∧ t.pending = s.pending ∧ t.reply = s.reply := by
  obtain ⟨t, ht, hcommutes⟩ := exec_commutes_setHost i s
  have heq : t = t.setHost s.pending s.reply := Host.Outcome.next.inj (ht.symm.trans (hcommutes s.pending s.reply))
  exact ⟨t, ht, by rw [heq]; rfl, by rw [heq]; rfl⟩

/-- So they are by every word: an illegal one only raises E_ILLEGAL (43_control.md R183). -/
theorem execute_keeps_host (w : Word) (s : State) :
    ∃ t, execute w s = .next t ∧ t.pending = s.pending ∧ t.reply = s.reply := by
  cases hw : decode w with
  | legal i =>
    rw [execute_of_legal w i s hw]
    exact exec_keeps_host i s
  | illegal why => exact ⟨_, execute_of_illegal w why s hw, by simp [raiseErr_eq]⟩

/-- A served event is answered with a next state and taken off the list, whatever the state (60_exceptions.md R200). -/
theorem step_of_served {s : State} {e : HostEvent} {rest : List HostEvent} (h : s.pending = e :: rest) (he : Served e) :
    ∃ t, step s = .next t ∧ t.pending = rest := by
  cases e with
  | read off size =>
    obtain ⟨ha, rfl⟩ := he
    exact ⟨_, step_read h ha, rfl⟩
  | write off size v =>
    obtain ⟨ha, rfl⟩ := he
    by_cases hc : off = 0x004
    · subst hc
      obtain ⟨t, ht, hpending, -⟩ := execute_keeps_host v (s.setHost rest none)
      exact ⟨t, (step_write_cmd h).trans ht, hpending⟩
    · exact ⟨_, step_write_other h ha hc, rfl⟩
  | reset => exact ⟨_, step_reset h, rfl⟩

/-! Commands in a row. -/

/-- Each command's word decodes to it (30_encoding.md R87), one finite check per row of R82. -/
theorem decode_encode (i : Instr) : decode (encode i) = .legal i := by
  cases i with
  | nop => decide
  | crcInit => decide
  | crcByte d => revert d; decide
  | setAddr a => revert a; decide
  | frameClear => decide
  | framePush d => revert d; decide
  | frameSeal => decide
  | frameBuild n => revert n; decide
  | respStart => decide
  | respByte d => revert d; decide
  | clrErr => decide
  | softReset => decide

/-- The host's write of a command runs it (20_memory.md R53). -/
theorem step_command {s : State} {i : Instr} {rest : List HostEvent} (h : s.pending = commandWrite (encode i) :: rest) :
    step s = exec i (s.setHost rest none) := by
  rw [step_write_cmd h, execute_of_legal _ i _ (decode_encode i)]

/-- A run begins with the first step it takes. -/
theorem run_succ_of_step {s t : State} (h : step s = .next t) (n : Nat) : core.run (n + 1) s = core.run n t := by
  have hcore : core.step s = .next t := h
  simp only [Host.Core.run, hcore]

/-- A sequence of commands begins with its first one. -/
theorem execAll_cons {i : Instr} {s t : State} (h : exec i s = .next t) (is : List Instr) :
    execAll (i :: is) s = execAll is t := by
  simp only [execAll, h]

/-- The host's writes of a list of commands run them in order (20_memory.md R58): each is taken off the list and executed, and none
sees the events after it. -/
theorem run_commandEvents (i : Instr) (is : List Instr) {rest : List HostEvent} {s : State}
    (h : s.pending = commandEvents (i :: is) ++ rest) :
    core.run (is.length + 1) s = execAll (i :: is) (s.setHost rest none) := by
  induction is generalizing i s with
  | nil =>
    obtain ⟨t, -, ht⟩ := exec_commutes_setHost i s
    rw [run_succ_of_step ((step_command h).trans (ht rest none)), execAll_cons (ht rest none)]
    rfl
  | cons j is ih =>
    obtain ⟨t, -, ht⟩ := exec_commutes_setHost i s
    have hstep := (step_command h).trans (ht (commandEvents (j :: is) ++ rest) none)
    rw [List.length_cons, run_succ_of_step hstep, ih j rfl, setHost_setHost, execAll_cons (ht rest none)]

/-- Below 512 accepted bytes a RESP_BYTE is accepted (42_match.md R152). -/
theorem acceptByte_of_room {s : State} (d : Byte) (h : s.rcount.toNat < 512) :
    acceptByte fcb d s = s.setResponse (s.rcount + 1) (shiftIn s.rlast d) (s.matched || isMarker fcb d) := by
  obtain ⟨hfull, -⟩ | ⟨-, heq⟩ := acceptByte_cases fcb d s
  · have : s.rcount.toNat = 512 := congrArg BitVec.toNat hfull
    omega
  · rw [heq, markerHit_fcb]
    rfl

/-- The same byte pushed twice is counted twice and stands in the two newest places (20_memory.md R53). -/
theorem acceptByte_twice {s : State} (d : Byte) (h : s.rcount.toNat ≤ 510) :
    (acceptByte fcb d (acceptByte fcb d s)).rcount = s.rcount + 2 ∧
    byteAt (acceptByte fcb d (acceptByte fcb d s)).rlast 0 = d ∧
    byteAt (acceptByte fcb d (acceptByte fcb d s)).rlast 1 = d := by
  have hnext : (s.rcount + 1).toNat = s.rcount.toNat + 1 := BitVec.toNat_add_of_lt (by simp; omega)
  have hfirst := acceptByte_of_room d (show s.rcount.toNat < 512 by omega)
  have hroom : (acceptByte fcb d s).rcount.toNat < 512 := by
    rw [hfirst, State.setResponse_rcount]
    omega
  rw [acceptByte_of_room d hroom, hfirst]
  refine ⟨BitVec.add_assoc s.rcount 1 1, byteAt_shiftIn_zero _ d, ?_⟩
  exact (byteAt_shiftIn_succ _ d 0 (by decide)).trans (byteAt_shiftIn_zero _ d)

end Sys2Proof.Machine
end

-- ==== Proofs: the statements about accesses ====
section
/-!
The reads, writes and refusals of the register window (20_memory.md R51 to R53).
-/

namespace Sys2Proof.Machine

/-- Settles O26: each clause is the step's equation for its event; the register map agrees with R53's case list, and a RESP_BYTE
written twice is accepted twice. -/
theorem registerWindowReadsAndWrites : Obligations.RegisterWindowReadsAndWrites := by
  refine ⟨?read, ?readTwice, fun s v rest h => step_write_cmd h, fun s off v rest ha hc h => step_write_other h ha hc, ?push⟩
  case read =>
    intro s off rest ha h
    rw [← regRead_wordOffset s ha]
    exact step_read h ha
  case readTwice =>
    intro s off rest ha h
    refine ⟨_, _, step_read h ha, step_read rfl ha, ?_, sameBlock_setHost s _ _, sameBlock_setHost _ _ _⟩
    simp
  case push =>
    intro s d rest hcount h
    refine ⟨_, (run_commandEvents (.respByte d) [.respByte d] h).trans ?_, acceptByte_twice (s := s.setHost rest none) d hcount⟩
    rw [execAll_cons (exec_respByte _ d), execAll_cons (exec_respByte _ d)]
    rfl

/-- Settles O27: an access is refused exactly when it is not served, and every served event completes. -/
theorem inexpressibleAccessIsRefused : Obligations.InexpressibleAccessIsRefused := by
  refine ⟨?_, ?_, fun s e rest h he => step_of_served h he⟩
  · intro s off size rest h hbad
    exact step_of_not_served h fun ⟨ha, hsize⟩ => hbad.elim (· ha) (· hsize)
  · intro s off size v rest h hbad
    exact step_of_not_served h fun ⟨ha, hsize⟩ => hbad.elim (· ha) (· hsize)

end Sys2Proof.Machine
end

-- ==== Proofs: the fields of a word, the rows and the commands ====
section
/-!
SUPPORT. A word is its three fields (30_encoding.md R80), a row of R82 selects a word exactly when the word is the encoding of the
row's command, and the rows exclude each other by their opcode. The legal words are the encodings of the 1287 commands.
-/

namespace Sys2Proof.Machine

/-! The fields of a word. -/

/-- OP, RSV and ARG fill the word (30_encoding.md R80). -/
theorem word_eq_append_fields (w : Word) : w = (fieldsOf w).op ++ (fieldsOf w).rsv ++ (fieldsOf w).arg := by
  simp only [fieldsOf]
  rw [BitVec.extractLsb'_append_extractLsb'_eq_extractLsb' (by rfl),
    BitVec.extractLsb'_append_extractLsb'_eq_extractLsb' (by rfl)]
  exact BitVec.extractLsb'_eq_self.symm

/-- So words with the same fields are the same. -/
theorem fieldsOf_injective : Function.Injective fieldsOf := fun v w h => by
  rw [word_eq_append_fields v, word_eq_append_fields w, h]

/-- The low byte of a word is what the mask 0xFFFFFF00 leaves out. -/
theorem and_mask_or_arg (w : Word) : (w &&& 0xFFFFFF00) ||| (fieldsOf w).arg.setWidth 32 = w := by
  have hmask : (0xFFFFFF00 : Word) = ~~~(BitVec.allOnes 8).setWidth 32 := rfl
  ext k hk
  simp only [fieldsOf, hmask, BitVec.getElem_or, BitVec.getElem_and, BitVec.getElem_not, BitVec.getElem_setWidth,
    BitVec.getLsbD_allOnes, BitVec.getLsbD_extractLsb', Nat.zero_add, BitVec.getLsbD_eq_getElem hk]
  by_cases hlow : k < 8 <;> simp [hlow]

/-- The encoding of a command holds its OP, zeros and its ARG (30_encoding.md R87). -/
theorem fieldsOf_encode (i : Instr) : fieldsOf (encode i) = ⟨i.op, 0, i.arg⟩ := by
  have hop : (encode i).extractLsb' 24 8 = i.op := by
    ext k hk
    have harg : i.arg.getLsbD (24 + k) = false := BitVec.getLsbD_of_ge _ _ (by omega)
    simp [encode, hk, harg, show 24 + k < 32 by omega]
  have hrsv : (encode i).extractLsb' 8 16 = 0 := by
    ext k hk
    simp [encode, show 8 + k < 24 by omega]
  have harg : (encode i).extractLsb' 0 8 = i.arg := by
    ext k hk
    simp [encode, hk, show k < 24 by omega, show k < 32 by omega]
  simp only [fieldsOf, hop, hrsv, harg]

/-! The rows of 30_encoding.md R82. -/

/-- A row without ARG has one word, its pattern; a row with ARG has its pattern and any byte. -/
theorem row_cases : ∀ r ∈ rows,
    (r.mask = 0xFFFFFFFF ∧ ∀ d, encode (r.build d) = r.pattern) ∨
    (r.mask = 0xFFFFFF00 ∧ ∀ d, encode (r.build d) = r.pattern ||| d.setWidth 32) := by
  simp [rows, encode, Instr.op, Instr.arg]

/-- The word a row selects is the encoding of the command the row builds from the word's ARG. -/
theorem encode_build_of_selects {r : Row} {w : Word} (hr : r ∈ rows) (h : r.selects w = true) :
    encode (r.build (fieldsOf w).arg) = w := by
  have hw : w &&& r.mask = r.pattern := beq_iff_eq.mp h
  obtain ⟨hmask, hbuild⟩ | ⟨hmask, hbuild⟩ := row_cases r hr
  · rw [hbuild, ← hw, hmask]
    exact BitVec.and_allOnes
  · rw [hbuild, ← hw, hmask, and_mask_or_arg]

/-- A row's opcode does not depend on ARG. -/
theorem build_op : ∀ r ∈ rows, ∀ d, (r.build d).op = (r.build 0).op := by
  simp [rows, Instr.op]

/-- The rows' opcodes are the twelve assigned ones, in order. -/
theorem rows_map_op : rows.map (fun r => (r.build 0).op) = assignedOps := rfl

/-- A row that selects a word has the word's opcode. -/
theorem op_of_selects {r : Row} {w : Word} (hr : r ∈ rows) (h : r.selects w = true) :
    (r.build 0).op = (fieldsOf w).op := by
  rw [← build_op r hr (fieldsOf w).arg]
  conv_rhs => rw [← encode_build_of_selects hr h, fieldsOf_encode]

/-- No word is selected by two rows: their opcodes differ (30_encoding.md R83). -/
theorem filter_selects (w : Word) :
    rows.filter (fun r => r.selects w) = [] ∨ ∃ r, rows.filter (fun r => r.selects w) = [r] := by
  have hdistinct : rows.Pairwise fun r q => (r.build 0).op ≠ (q.build 0).op :=
    List.pairwise_map.mp (rows_map_op ▸ (by decide : assignedOps.Nodup))
  have hsel : ∀ r ∈ rows.filter (fun r => r.selects w), (r.build 0).op = (fieldsOf w).op := by
    intro r hr
    obtain ⟨hrow, hselects⟩ := List.mem_filter.mp hr
    exact op_of_selects hrow hselects
  have hfilter := hdistinct.filter fun r => r.selects w
  generalize rows.filter (fun r => r.selects w) = l at hsel hfilter
  match l with
  | [] => exact .inl rfl
  | [r] => exact .inr ⟨r, rfl⟩
  | r :: q :: _ =>
    have hrq : (r.build 0).op ≠ (q.build 0).op := List.rel_of_pairwise_cons hfilter (by simp)
    exact absurd ((hsel r (by simp)).trans (hsel q (by simp)).symm) hrq

/-! Decoding. -/

/-- All a decoder can answer: the command of the one row that selects the word, or R84's reason where no row does. -/
theorem decode_cases (w : Word) :
    (∃ r ∈ rows, rows.filter (fun q => q.selects w) = [r] ∧ decode w = .legal (r.build (fieldsOf w).arg) ∧
      encode (r.build (fieldsOf w).arg) = w) ∨
    (rows.filter (fun q => q.selects w) = [] ∧ decode w = .illegal (whyIllegal (fieldsOf w))) := by
  obtain hnone | ⟨r, hone⟩ := filter_selects w
  · have hfind : rows.find? (fun q => q.selects w) = none := by rw [← List.head?_filter, hnone]; rfl
    exact .inr ⟨hnone, by simp only [decode, hfind]⟩
  · have hfind : rows.find? (fun q => q.selects w) = some r := by rw [← List.head?_filter, hone]; rfl
    obtain ⟨hr, hsel⟩ := List.mem_filter.mp (hone ▸ List.mem_singleton_self r)
    exact .inl ⟨r, hr, hone, by simp only [decode, hfind], encode_build_of_selects hr hsel⟩

/-- A word decodes to a command exactly when it is the command's encoding (30_encoding.md R83, R87). -/
theorem decode_eq_legal_iff (w : Word) (i : Instr) : decode w = .legal i ↔ encode i = w := by
  constructor
  · intro h
    obtain ⟨r, -, -, hdec, henc⟩ | ⟨-, hdec⟩ := decode_cases w
    · obtain rfl := Decoded.legal.inj (h.symm.trans hdec)
      exact henc
    · exact absurd (h.symm.trans hdec) nofun
  · rintro rfl
    exact decode_encode i

/-- Different commands have different words. -/
theorem encode_injective : Function.Injective encode := fun i j h =>
  Decoded.legal.inj ((decode_encode i).symm.trans ((decode_eq_legal_iff _ j).mpr h.symm))

/-- The legal words are the commands' encodings. -/
theorem not_isIllegal_iff (w : Word) : ¬ IsIllegal w ↔ ∃ i, encode i = w := by
  simp only [← decode_eq_legal_iff, IsIllegal]
  cases decode w <;> simp

/-- An illegal word is rejected for R84's reason. -/
theorem decode_of_isIllegal {w : Word} (h : IsIllegal w) : decode w = .illegal (whyIllegal (fieldsOf w)) := by
  obtain ⟨why, hwhy⟩ := h
  obtain ⟨r, -, -, hdec, -⟩ | ⟨-, hdec⟩ := decode_cases w
  · exact absurd (hwhy.symm.trans hdec) nofun
  · exact hdec

/-- An illegal word writes `err` alone, 1 if it was 0 (30_encoding.md R84). -/
theorem execute_of_isIllegal {w : Word} (h : IsIllegal w) (s : State) :
    execute w s = .next { s with err := if s.err = 0 then 1 else s.err } := by
  rw [execute_of_illegal w _ s (decode_of_isIllegal h), raiseErr_eq]
  rfl

/-! R84's checks. -/

/-- The fields of every command's word pass R84's checks. -/
theorem wellFormed_encode (i : Instr) : (fieldsOf (encode i)).wellFormed = true := by
  cases i with
  | nop => exact Laws.EncodesWellFormed.nop
  | crcInit => exact Laws.EncodesWellFormed.crcInit
  | crcByte d => exact Laws.EncodesWellFormed.crcByte d
  | setAddr a => exact Laws.EncodesWellFormed.setAddr a
  | frameClear => exact Laws.EncodesWellFormed.frameClear
  | framePush d => exact Laws.EncodesWellFormed.framePush d
  | frameSeal => exact Laws.EncodesWellFormed.frameSeal
  | frameBuild n => exact Laws.EncodesWellFormed.frameBuild n
  | respStart => exact Laws.EncodesWellFormed.respStart
  | respByte d => exact Laws.EncodesWellFormed.respByte d
  | clrErr => exact Laws.EncodesWellFormed.clrErr
  | softReset => exact Laws.EncodesWellFormed.softReset

/-- R84's checks, each as a property of the fields. -/
theorem wellFormed_iff (f : Fields) :
    f.wellFormed = true ↔ f.op ∈ assignedOps ∧ f.rsv = 0 ∧ (f.op ∈ argOps ∨ f.arg = 0) := by
  simp [Fields.wellFormed, Fields.opAssigned, Fields.rsvZero, Fields.argAllowed, and_assoc]

/-- The command a row builds has the given ARG where its opcode takes one, and 0 elsewhere. -/
theorem build_arg : ∀ r ∈ rows, ∀ d, (r.build d).arg = if (r.build 0).op ∈ argOps then d else 0 := by
  simp [rows, argOps, Instr.op, Instr.arg]

/-- Fields that pass R84's checks are those of a command: the one that the row with their opcode builds. -/
theorem exists_instr_of_wellFormed {f : Fields} (h : f.wellFormed = true) : ∃ i : Instr, f = ⟨i.op, 0, i.arg⟩ := by
  obtain ⟨op, rsv, arg⟩ := f
  obtain ⟨hop, rfl, harg⟩ := (wellFormed_iff _).mp h
  obtain ⟨r, hr, rfl⟩ := List.mem_map.mp (rows_map_op ▸ hop)
  refine ⟨r.build arg, ?_⟩
  rw [build_op r hr arg, build_arg r hr arg, ite_eq_left_iff.mpr fun hno => (harg.resolve_left hno).symm]

/-- A word is illegal exactly when its fields fail R84's checks. -/
theorem isIllegal_iff (w : Word) : IsIllegal w ↔ (fieldsOf w).wellFormed = false := by
  rw [← not_iff_not, not_isIllegal_iff, Bool.not_eq_false]
  constructor
  · rintro ⟨i, rfl⟩
    exact wellFormed_encode i
  · intro h
    obtain ⟨i, hi⟩ := exists_instr_of_wellFormed h
    exact ⟨i, fieldsOf_injective ((fieldsOf_encode i).trans hi.symm)⟩

/-- The assigned opcodes whose command takes no ARG are the other seven (30_encoding.md R84 (c)). -/
theorem not_mem_argOps_iff : ∀ op ∈ assignedOps,
    op ∉ argOps ↔ op ∈ ([0x00, 0x01, 0x11, 0x13, 0x20, 0x30, 0x3F] : List (BitVec 8)) := by
  decide

/-- No assigned opcode lies in R86's five ranges. -/
theorem not_reserved_of_mem_assignedOps : ∀ op ∈ assignedOps, ¬
    ((0x03 ≤ op.toNat ∧ op.toNat ≤ 0x0F) ∨ (0x15 ≤ op.toNat ∧ op.toNat ≤ 0x1F) ∨ (0x22 ≤ op.toNat ∧ op.toNat ≤ 0x2F) ∨
      (0x31 ≤ op.toNat ∧ op.toNat ≤ 0x3E) ∨ 0x40 ≤ op.toNat) := by
  decide

/-! The list of all commands. -/

/-- The 256 bytes. -/
def allBytes : List Byte := (List.finRange 256).map BitVec.ofFin

theorem mem_allBytes (b : Byte) : b ∈ allBytes :=
  List.mem_map.mpr ⟨b.toFin, List.mem_finRange _, BitVec.ofFin_toFin b⟩

theorem nodup_allBytes : allBytes.Nodup :=
  (List.nodup_finRange 256).map fun _ _ h => congrArg BitVec.toFin h

theorem length_allBytes : allBytes.length = 256 := by
  rw [allBytes, List.length_map, List.length_finRange]

/-- The seven commands without ARG (30_encoding.md R82). -/
def plainCommands : List Instr := [.nop, .crcInit, .frameClear, .frameSeal, .respStart, .clrErr, .softReset]

/-- The five commands with ARG, for one byte. -/
def argCommands (d : Byte) : List Instr := [.crcByte d, .setAddr d, .framePush d, .frameBuild d, .respByte d]

/-- Every command. -/
def allCommands : List Instr := plainCommands ++ allBytes.flatMap argCommands

theorem mem_allCommands (i : Instr) : i ∈ allCommands := by
  cases i <;> simp [allCommands, plainCommands, argCommands, mem_allBytes]

theorem length_allCommands : allCommands.length = 1287 := by
  have hfive : allBytes.map (fun d => (argCommands d).length) = List.replicate allBytes.length 5 :=
    List.map_eq_replicate_iff.mpr fun _ _ => rfl
  rw [allCommands, List.length_append, List.length_flatMap, hfive, List.sum_replicate, length_allBytes]
  rfl

/-- A command with ARG d has the operand d. -/
theorem arg_of_mem_argCommands {d : Byte} {i : Instr} (h : i ∈ argCommands d) : i.arg = d := by
  simp only [argCommands, List.mem_cons, List.not_mem_nil, or_false] at h
  obtain rfl | rfl | rfl | rfl | rfl := h <;> rfl

theorem nodup_allCommands : allCommands.Nodup := by
  have hargs : (allBytes.flatMap argCommands).Nodup := by
    refine List.nodup_flatMap.mpr ⟨fun d _ => by simp [argCommands], nodup_allBytes.imp ?_⟩
    intro d e hne i hd he
    exact hne ((arg_of_mem_argCommands hd).symm.trans (arg_of_mem_argCommands he))
  refine List.nodup_append'.mpr ⟨by decide, hargs, ?_⟩
  simp [List.Disjoint, plainCommands, argCommands]

/-! Example words and texts. -/

/-- The word of FRAME_BUILD: the template id stands in ARG (30_encoding.md R87). -/
theorem encode_frameBuild (n : Byte) : encode (.frameBuild n) = 0x14000000 + n.setWidth 32 := by
  have hdisjoint : (0x14000000 : Word) &&& n.setWidth 32 = 0 := by
    revert n
    decide
  rw [BitVec.add_eq_or_of_and_eq_zero _ _ hdisjoint]
  simp [encode, Instr.op, Instr.arg]

/-- The eight legal example texts of 30_encoding.md R89, statement by statement. -/
theorem assembleLine_examples :
    ["NOP".toList, "CRC_INIT".toList, "CRC_BYTE 0x06".toList, "SET_ADDR 0x00".toList, "FRAME_PUSH 0xFF".toList,
      "FRAME_BUILD 0".toList, "RESP_BYTE 0xFB".toList, "SOFT_RESET".toList].mapM assembleLine =
    some [[.command .nop], [.command .crcInit], [.command (.crcByte 0x06)], [.command (.setAddr 0x00)],
      [.command (.framePush 0xFF)], [.command (.frameBuild 0)], [.command (.respByte 0xFB)], [.command .softReset]] := by
  have hnop : assembleLine "NOP".toList = some [.command .nop] := by decide
  have hcrcInit : assembleLine "CRC_INIT".toList = some [.command .crcInit] := by decide
  have hcrcByte : assembleLine "CRC_BYTE 0x06".toList = some [.command (.crcByte 0x06)] := by decide
  have hsetAddr : assembleLine "SET_ADDR 0x00".toList = some [.command (.setAddr 0x00)] := by decide
  have hframePush : assembleLine "FRAME_PUSH 0xFF".toList = some [.command (.framePush 0xFF)] := by decide
  have hframeBuild : assembleLine "FRAME_BUILD 0".toList = some [.command (.frameBuild 0)] := by decide
  have hrespByte : assembleLine "RESP_BYTE 0xFB".toList = some [.command (.respByte 0xFB)] := by decide
  have hsoftReset : assembleLine "SOFT_RESET".toList = some [.command .softReset] := by decide
  simp only [List.mapM_cons, List.mapM_nil, hnop, hcrcInit, hcrcByte, hsetAddr, hframePush, hframeBuild, hrespByte, hsoftReset]
  rfl

end Sys2Proof.Machine
end

-- ==== Proofs: the statements about the encoding ====
section
/-!
The obligations of 30_encoding.md, each put together from the rules above.
-/

namespace Sys2Proof.Machine

/-- Settles O1: a word decodes to a command exactly when it is the command's encoding. -/
theorem decodeInvertsEncode : Obligations.DecodeInvertsEncode :=
  ⟨decode_encode, fun w i => (decode_eq_legal_iff w i).mp⟩

/-- Settles O2: the two answers of the decoder, each with what the word then runs. -/
theorem everyWordSelectsOneRowOrIsIllegal : Obligations.EveryWordSelectsOneRowOrIsIllegal := by
  intro w
  obtain ⟨r, hr, hone, hdec, -⟩ | ⟨hnone, hdec⟩ := decode_cases w
  · exact .inl ⟨r, hr, hone, fun s => execute_of_legal w _ s hdec⟩
  · exact .inr ⟨hnone, ⟨_, hdec⟩, fun s => execute_of_illegal w _ s hdec⟩

/-- Settles O3: R84's three checks negated; the legal words are the encodings of the 1287 commands. -/
theorem illegalWordsAreExactlyThreeKinds : Obligations.IllegalWordsAreExactlyThreeKinds := by
  refine ⟨?kinds, fun w s h => execute_of_isIllegal h s, allCommands.map encode, ?nodup, ?length, ?legal⟩
  case kinds =>
    intro w
    rw [isIllegal_iff, ← Bool.not_eq_true, wellFormed_iff, not_and_or, not_and_or, not_or]
    refine or_congr_right' fun hop => or_congr_right (and_congr_left' ?_)
    exact not_mem_argOps_iff _ (not_not.mp hop)
  case nodup => exact nodup_allCommands.map encode_injective
  case length => rw [List.length_map, length_allCommands]
  case legal =>
    intro w
    simp [not_isIllegal_iff, mem_allCommands]

/-- Settles O4: an opcode of R86's ranges is none of the twelve, so R84's first check fails. -/
theorem unassignedOpcodesAreIllegal : Obligations.UnassignedOpcodesAreIllegal := by
  intro w hrange
  have hop : (fieldsOf w).op ∉ assignedOps := fun hmem => not_reserved_of_mem_assignedOps _ hmem hrange
  have hillegal : IsIllegal w := by
    rw [isIllegal_iff, ← Bool.not_eq_true, wellFormed_iff]
    exact fun ⟨hmem, _⟩ => hop hmem
  refine ⟨?_, execute_of_isIllegal hillegal⟩
  rw [decode_of_isIllegal hillegal]
  simp [whyIllegal, Fields.opAssigned, hop]

/-- Settles O5: the texts are the commands' statements, each legal word is its command's encoding, and each other word fails one of
R84's checks. -/
theorem exampleWordsDecode : Obligations.ExampleWordsDecode := by
  refine ⟨?texts, ?_, ?_, ?_, ?_, ?_, ?_, ?_, ?_, fun s => ⟨?rsv, ?arg, ?op⟩⟩
  case texts =>
    rw [assemble, assembleLine_examples]
    rfl
  case rsv => exact execute_of_isIllegal ((isIllegal_iff _).mpr (by decide)) s
  case arg => exact execute_of_isIllegal ((isIllegal_iff _).mpr (by decide)) s
  case op => exact execute_of_isIllegal ((isIllegal_iff _).mpr (by decide)) s
  all_goals exact (decode_eq_legal_iff _ _).mpr rfl

/-- Settles O16: the word is FRAME_BUILD's encoding, and ids 0 and 1 alone have a template. -/
theorem reservedTemplateIdsDecodeAndFail : Obligations.ReservedTemplateIdsDecodeAndFail := by
  have hdecode (n : Byte) : decode (0x14000000 + n.setWidth 32) = .legal (.frameBuild n) :=
    (decode_eq_legal_iff _ _).mpr (encode_frameBuild n)
  have hexec (n : Byte) (s : State) := execute_of_legal _ _ s (hdecode n)
  refine ⟨hdecode, ?reserved, ?present⟩
  case reserved =>
    intro s n hn
    rw [hexec]
    obtain ⟨rfl, -⟩ | ⟨rfl, -⟩ | ⟨-, hnone⟩ := templateBytes_fcb n s.addr
    · exact absurd hn (by decide)
    · exact absurd hn (by decide)
    · rw [exec_frameBuild_of_none hnone, raiseErr_eq]
      rfl
  case present =>
    intro s n hn
    rw [hexec]
    obtain ⟨rfl, hsome⟩ | ⟨rfl, hsome⟩ | ⟨hn', -⟩ := templateBytes_fcb n s.addr
    · exact ⟨_, exec_frameBuild_of_some hsome, rfl⟩
    · exact ⟨_, exec_frameBuild_of_some hsome, rfl⟩
    · omega

end Sys2Proof.Machine
end

-- ==== Proofs: the words of one opcode ====
section
/-!
SUPPORT. The legal words with a given opcode, as the statements about the commands name them: the command's encoding alone where it
takes no ARG, one word per byte where it takes one (30_encoding.md R82, R84).
-/

namespace Sys2Proof.Machine

/-- OP and ARG share no bit of a word, so R87's "or" is a sum. -/
theorem encode_eq_add (i : Instr) : encode i = (i.op.setWidth 32 <<< 24) + i.arg.setWidth 32 := by
  have hdisjoint : (i.op.setWidth 32 <<< 24) &&& i.arg.setWidth 32 = (0 : Word) := by
    ext k hk
    by_cases hlow : k < 24
    · simp [hlow]
    · simp [show i.arg.getLsbD k = false from BitVec.getLsbD_of_ge _ _ (by omega)]
  rw [BitVec.add_eq_or_of_and_eq_zero _ _ hdisjoint]
  rfl

/-- Commands with the same OP and ARG are the same: a command's word is built from these two. -/
theorem instr_eq_of_fields {i j : Instr} (hop : i.op = j.op) (harg : i.arg = j.arg) : i = j :=
  encode_injective (by rw [encode, encode, hop, harg])

/-- A command whose opcode is outside R82's opcodes with ARG has ARG 0. -/
theorem arg_eq_zero_of_not_mem_argOps {i : Instr} (h : i.op ∉ argOps) : i.arg = 0 := by
  have hwf := (wellFormed_iff _).mp (wellFormed_encode i)
  rw [fieldsOf_encode] at hwf
  obtain ⟨-, -, harg⟩ := hwf
  exact harg.resolve_left h

/-- A word with RSV not 0 is illegal (30_encoding.md R84 (b)). -/
theorem isIllegal_of_rsv_ne_zero {w : Word} (h : w.extractLsb' 8 16 ≠ 0) : IsIllegal w := by
  rw [isIllegal_iff, ← Bool.not_eq_true, wellFormed_iff]
  exact fun ⟨_, hrsv, _⟩ => h hrsv

/-- The word of a command without ARG is the only legal one with its opcode. -/
theorem soleWord_of_encode {i : Instr} {op : BitVec 8} {w : Word} (hop : i.op = op) (hw : encode i = w)
    (hno : op ∉ argOps) : SoleWord op w i := by
  subst hop hw
  refine ⟨decode_encode i, fun v hv hne => ?_⟩
  by_contra hlegal
  obtain ⟨j, rfl⟩ := (not_isIllegal_iff v).mp hlegal
  have hj : j.op = i.op := (congrArg Fields.op (fieldsOf_encode j)).symm.trans hv
  have harg : j.arg = i.arg := by
    rw [arg_eq_zero_of_not_mem_argOps hno, arg_eq_zero_of_not_mem_argOps (hj ▸ hno)]
  exact hne (congrArg encode (instr_eq_of_fields hj harg))

/-- The words of a command with ARG are its opcode's, one per byte. -/
theorem byteWords_of_encode {op : BitVec 8} {base : Word} {build : Byte → Instr} (hop : ∀ d, (build d).op = op)
    (harg : ∀ d, (build d).arg = d) (hbase : op.setWidth 32 <<< 24 = base) : ByteWords op base build := by
  refine ⟨fun d => (decode_eq_legal_iff _ _).mpr ?_, fun w _ hrsv => isIllegal_of_rsv_ne_zero hrsv⟩
  rw [encode_eq_add, hop, harg, hbase]

end Sys2Proof.Machine
end

-- ==== Proofs: the CRC functions and the CRC unit's commands ====
section
/-!
SUPPORT. The rounds as a fold and as a shift, the CRC of a sequence byte by byte (40_crc.md R100 to R102), the two steps of the
residue (R106), and the CRC unit's commands in a row (R104, R105).
-/

namespace Sys2Proof.Machine

/-! The rounds. -/

/-- The rounds as a fold over any list with one entry per round. -/
theorem foldl_crcRound {α : Type} (cfg : Config) (l : List α) (c : Crc) :
    l.foldl (fun c _ => crcRound cfg c) c = crcRounds cfg l.length c := by
  induction l generalizing c with
  | nil => rfl
  | cons _ l ih => exact ih (crcRound cfg c)

/-- `crc_step` as 40_crc.md R100 writes it: the XOR, then the round for k in 0 to 7. -/
theorem crcStep_eq_foldl (cfg : Config) (c : Crc) (b : Byte) :
    crcStep cfg c b = (List.range 8).foldl (fun c _ => crcRound cfg c) (c ^^^ b.setWidth 16) :=
  (foldl_crcRound cfg (List.range 8) _).symm

/-- A round on an accumulator whose low bit is 0 makes no XOR. -/
theorem crcRound_of_low_bit_zero (cfg : Config) {c : Crc} (h : c.getLsbD 0 = false) : crcRound cfg c = c >>> 1 := by
  rw [crcRound, h, if_neg Bool.false_ne_true]

/-- Rounds that see only zero low bits are a shift. -/
theorem crcRounds_of_low_bits_zero (cfg : Config) (n : Nat) {c : Crc} (h : ∀ k < n, c.getLsbD k = false) :
    crcRounds cfg n c = c >>> n := by
  induction n generalizing c with
  | zero => rw [BitVec.ushiftRight_zero]; rfl
  | succ n ih =>
    have hnext : ∀ k < n, (c >>> 1).getLsbD k = false := fun k hk => by
      rw [BitVec.getLsbD_ushiftRight]
      exact h (1 + k) (by omega)
    rw [crcRounds_succ, crcRound_of_low_bit_zero cfg (h 0 n.succ_pos), ih hnext, ← BitVec.shiftRight_add, Nat.add_comm]

/-! The residue: each checksum byte cancels the low byte it is XORed into. -/

/-- Feeding the accumulator's own low byte moves the high byte down. -/
theorem crcStep_low_byte (cfg : Config) (c : Crc) : crcStep cfg c (c.extractLsb' 0 8) = zext 16 (c.extractLsb' 8 8) := by
  have hlow : ∀ k < 8, (c ^^^ zext 16 (c.extractLsb' 0 8)).getLsbD k = false := fun k hk => by
    simp [zext, hk, show k < 16 by omega]
  rw [crcStep, crcRounds_of_low_bits_zero cfg 8 hlow]
  ext k hk
  by_cases h8 : k < 8
  · simp [zext, h8]
  · simp [zext, h8, BitVec.getLsbD_of_ge c (8 + k) (by omega)]

/-- Feeding the byte that the accumulator holds alone leaves 0. -/
theorem crcStep_zext_self (cfg : Config) (b : Byte) : crcStep cfg (zext 16 b) b = 0 := by
  rw [crcStep, BitVec.xor_self, crcRounds_of_low_bits_zero cfg 8 fun _ _ => BitVec.getLsbD_zero]
  rfl

/-! The CRC of a sequence. -/

/-- The CRC of one more byte (40_crc.md R102). -/
theorem crc16_append_singleton (cfg : Config) (bs : List Byte) (b : Byte) :
    crc16 cfg (bs ++ [b]) = crcStep cfg (crc16 cfg bs) b := by
  rw [crc16, List.foldl_append]
  rfl

/-- A sequence followed by the two bytes of its CRC (40_crc.md R106): the low byte moves the high byte down, which then cancels. -/
theorem crc16_residue (cfg : Config) (bs : List Byte) :
    crc16 cfg (bs ++ [(crc16 cfg bs).extractLsb' 0 8, (crc16 cfg bs).extractLsb' 8 8]) = 0 := by
  rw [List.append_cons, crc16_append_singleton, crc16_append_singleton, crcStep_low_byte, crcStep_zext_self]

/-! The commands in a row. -/

/-- A row of one command is the command. -/
theorem execAll_singleton (i : Instr) (s : State) : execAll [i] s = exec i s := by
  obtain ⟨t, ht, -⟩ := exec_commutes_setHost i s
  rw [execAll_cons ht, ht]
  rfl

/-- CRC_BYTE for each byte in order folds `crc_step` over the accumulator and writes nothing else. -/
theorem execAll_crcBytes (bs : List Byte) (s : State) :
    execAll (bs.map .crcByte) s = .next (s.setCrc (bs.foldl (crcStep fcb) s.crc)) := by
  induction bs generalizing s with
  | nil => rfl
  | cons b bs ih =>
    rw [List.map_cons, execAll_cons (exec_crcByte s b), ih]
    rfl

/-- CRC_SEQ leaves the CRC of its bytes (40_crc.md R102). -/
theorem execAll_crcSeq (bs : List Byte) (s : State) :
    execAll (Pseudo.crcSeq bs).expand s = .next (s.setCrc (crc16 fcb bs)) :=
  (execAll_cons (exec_crcInit s) _).trans (execAll_crcBytes bs _)

/-- Raising an error neither reads nor writes the accumulator. -/
@[simp] theorem raiseErr_setCrc (e : ErrCode) (s : State) (c : Crc) :
    raiseErr e (s.setCrc c) = (raiseErr e s).setCrc c := by
  rw [raiseErr, raiseErr, apply_ite (State.setCrc · c)]
  rfl

/-- FRAME_SEAL completes, and neither reads nor writes the accumulator (41_frame.md R127). -/
theorem exec_frameSeal_commutes_setCrc (s : State) :
    ∃ t, exec .frameSeal s = .next t ∧ ∀ c, exec .frameSeal (s.setCrc c) = .next (t.setCrc c) := by
  cases hsealed : s.sealed with
  | true =>
    refine ⟨_, exec_frameSeal_of_sealed hsealed, fun c => ?_⟩
    rw [exec_frameSeal_of_sealed (by simpa using hsealed), raiseErr_setCrc]
  | false => exact ⟨_, exec_frameSeal_of_open hsealed, fun c => exec_frameSeal_of_open (s := s.setCrc c) hsealed⟩

end Sys2Proof.Machine
end

-- ==== Proofs: the statements about the CRC unit ====
section
/-!
The obligations of 40_crc.md, each put together from the rules above.
-/

namespace Sys2Proof.Machine

/-- Settles O40: CRC_INIT presets the accumulator, and the CRC_BYTEs fold `crc_step` over it. -/
theorem crcSequenceComputesCrc16 : Obligations.CrcSequenceComputesCrc16 :=
  ⟨execAll_crcSeq, rfl, crc16_append_singleton fcb⟩

/-- Settles O41: the residue of R106; an encoded frame is a sequence followed by the bytes of its CRC. -/
theorem checksumResidueIsZero : Obligations.ChecksumResidueIsZero := by
  refine ⟨crc16_residue fcb, fun bs s => ?_⟩
  rw [execAll_crcSeq, encodeFrame, checksum_fcb, crc16_residue]
  rfl

/-- Settles O7: opcode 0x01 takes no ARG, and FRAME_SEAL commutes with any write of the accumulator. -/
theorem crcInitPresetsAccumulator : Obligations.CrcInitPresetsAccumulator := by
  refine ⟨soleWord_of_encode rfl rfl (by decide), exec_crcInit, fun s => ?twice, fun s => ?sealed⟩
  case twice =>
    rw [execAll_cons (exec_crcInit s), execAll_singleton]
    rfl
  case sealed =>
    obtain ⟨t, ht, hcommutes⟩ := exec_frameSeal_commutes_setCrc s
    refine ⟨t, ht, ?_⟩
    rw [execAll_cons (exec_crcInit s), execAll_singleton]
    exact hcommutes 0xFFFF

/-- Settles O8: opcode 0x02 takes any ARG, and the eight rounds are R100's loop; the printed values are evaluated. -/
theorem crcByteRunsEightRounds : Obligations.CrcByteRunsEightRounds := by
  refine ⟨byteWords_of_encode (fun _ => rfl) (fun _ => rfl) rfl, fun s d => ?next, crcStep_eq_foldl fcb,
    ?_, ?_, ?_, ?_, ?_, rfl⟩
  case next =>
    rw [exec_crcByte, crcStep_eq_foldl]
    rfl
  all_goals decide

/-- Settles O10: the trace of R108 is evaluated round by round, and `crc_step` ends where its eighth round does. -/
theorem crcRoundTrace : Obligations.CrcRoundTrace := by
  have hxor : (0xFFFF : Crc) ^^^ zext 16 (0x06 : Byte) = 0xFFF9 := by decide
  have hlast : crcRounds fcb 8 0xFFF9 = 0x6AB1 := by decide
  refine ⟨hxor, by decide, by decide, ?_⟩
  rw [crcStep, hxor, hlast]

end Sys2Proof.Machine
end

-- ==== Proofs: frames, the frame builder's commands and commands one after another ====
section
/-!
SUPPORT. The frame of a payload and the templates' checksums (41_frame.md R122, R131), FRAME_BUILD of each template id (R121, R128),
a row of commands after another row, and the pushes between FRAME_CLEAR and FRAME_SEAL (R124 to R127).
-/

namespace Sys2Proof.Machine

/-! Frames. -/

/-- This hardware's frame: the payload, then the low and the high byte of its CRC (41_frame.md R122). -/
theorem encodeFrame_fcb (bs : List Byte) :
    encodeFrame fcb bs = bs ++ [(crc16 fcb bs).extractLsb' 0 8, (crc16 fcb bs).extractLsb' 8 8] := by
  rw [encodeFrame, checksum_fcb]

/-- A payload whose CRC is known has a known frame. -/
theorem encodeFrame_of_crc16 {bs : List Byte} {c : Crc} (h : crc16 fcb bs = c) :
    encodeFrame fcb bs = bs ++ [c.extractLsb' 0 8, c.extractLsb' 8 8] := by
  rw [encodeFrame_fcb, h]

/-- The CRC of template 0 with address 0xFF (41_frame.md R131). -/
theorem crc16_template_zero_addr_ff : crc16 fcb [0x06, 0xFF, 0x01, 0x00, 0x06] = 0xF128 := by decide +kernel
/-- The CRC of template 1 with address 0xFF (41_frame.md R131). -/
theorem crc16_template_one_addr_ff : crc16 fcb [0x04, 0xFF, 0x0F] = 0x5D65 := by decide +kernel
/-- The CRC of template 0 with address 0x00 (41_frame.md R131). -/
theorem crc16_template_zero_addr_00 : crc16 fcb [0x06, 0x00, 0x01, 0x00, 0x06] = 0x34FA := by decide +kernel
/-- The CRC of template 1 with address 0x00 (41_frame.md R131). -/
theorem crc16_template_one_addr_00 : crc16 fcb [0x04, 0x00, 0x0F] = 0xA2A5 := by decide +kernel

/-! FRAME_BUILD. -/

/-- FRAME_BUILD 0 builds template 0 with the state's address in its slot, from every state (41_frame.md R128). -/
theorem exec_frameBuild_zero (s : State) :
    exec (.frameBuild 0) s = .next (s.setFrame (encodeFrame fcb [0x06, s.addr, 0x01, 0x00, 0x06]) true) :=
  exec_frameBuild_of_some rfl

/-- FRAME_BUILD 1 builds template 1 with the state's address in its slot, from every state (41_frame.md R128). -/
theorem exec_frameBuild_one (s : State) :
    exec (.frameBuild 1) s = .next (s.setFrame (encodeFrame fcb [0x04, s.addr, 0x0F]) true) :=
  exec_frameBuild_of_some rfl

/-- The two unreserved ids in one equation. -/
theorem exec_frameBuild_of_lt_two {n : Byte} (h : n.toNat < 2) (s : State) :
    exec (.frameBuild n) s = .next (s.setFrame
      (encodeFrame fcb (if n = 0 then [0x06, s.addr, 0x01, 0x00, 0x06] else [0x04, s.addr, 0x0F])) true) := by
  obtain ⟨rfl, -⟩ | ⟨rfl, -⟩ | ⟨hn, -⟩ := templateBytes_fcb n s.addr
  · exact exec_frameBuild_zero s
  · exact exec_frameBuild_one s
  · omega

/-- A reserved id raises E_TEMPLATE (41_frame.md R128). -/
theorem exec_frameBuild_of_reserved {n : Byte} (h : 2 ≤ n.toNat) (s : State) :
    exec (.frameBuild n) s = .next (raiseErr .template s) := by
  obtain ⟨rfl, -⟩ | ⟨rfl, -⟩ | ⟨-, hnone⟩ := templateBytes_fcb n s.addr
  · exact absurd h (by decide)
  · exact absurd h (by decide)
  · exact exec_frameBuild_of_none hnone

/-! Rows of commands. -/

/-- A row of commands that completes is followed by the rest from where it ends. -/
theorem execAll_append {is : List Instr} {s t : State} (h : execAll is s = .next t) (js : List Instr) :
    execAll (is ++ js) s = execAll js t := by
  induction is generalizing s with
  | nil => exact congrArg (execAll js) (Host.Outcome.next.inj h)
  | cons i is ih =>
    obtain ⟨u, hu, -⟩ := exec_commutes_setHost i s
    rw [execAll_cons hu] at h
    rw [List.cons_append, execAll_cons hu, ih h]

/-- Pushes onto an open frame with room for all of them append their bytes in order (41_frame.md R126). -/
theorem execAll_framePushes (bs : List Byte) {s : State} (hopen : s.sealed = false)
    (hroom : s.fbuf.length + bs.length ≤ 254) :
    execAll (bs.map .framePush) s = .next (s.setFrame (s.fbuf ++ bs) false) := by
  induction bs generalizing s with
  | nil =>
    rw [List.append_nil, ← hopen]
    rfl
  | cons b bs ih =>
    rw [List.length_cons] at hroom
    have hpush := exec_framePush_of_room b hopen (show s.fbuf.length ≠ 254 by omega)
    have hroom' : (s.fbuf ++ [b]).length + bs.length ≤ 254 := by
      rw [List.length_append, List.length_singleton]
      omega
    rw [List.map_cons, execAll_cons hpush, ih rfl hroom', State.setFrame_fbuf, List.append_assoc]
    rfl

/-- The FRAME sequence (30_encoding.md R88) of a payload that fits builds the payload's sealed frame, from every state. -/
theorem execAll_frameSequence {bs : List Byte} (h : bs.length ≤ 254) (s : State) :
    execAll (Pseudo.frame bs).expand s = .next (s.setFrame (encodeFrame fcb bs) true) := by
  have hpushes : execAll (bs.map .framePush) (s.setFrame [] false) = .next (s.setFrame bs false) :=
    execAll_framePushes bs rfl (by simpa using h)
  rw [Pseudo.expand, execAll_cons (exec_frameClear s), execAll_append hpushes, execAll_singleton]
  exact exec_frameSeal_of_open rfl

/-- SET_ADDR a, then FRAME_BUILD: an unreserved id's frame holds a. -/
theorem execAll_setAddr_frameBuild {n : Byte} (h : n.toNat < 2) (a : Byte) (s : State) :
    execAll [.setAddr a, .frameBuild n] s = .next ((s.setAddr a).setFrame
      (encodeFrame fcb (if n = 0 then [0x06, a, 0x01, 0x00, 0x06] else [0x04, a, 0x0F])) true) := by
  rw [execAll_cons (exec_setAddr s a), execAll_singleton, exec_frameBuild_of_lt_two h]
  rfl

end Sys2Proof.Machine
end

-- ==== Proofs: the statements about the frame builder's commands ====
section
/-!
The obligations of 41_frame.md, each put together from the rules above.
-/

namespace Sys2Proof.Machine

/-- Settles O11: opcode 0x10 takes any ARG; the frame of the example is template 0 with its CRC evaluated. -/
theorem setAddrWritesOnlyAddr : Obligations.SetAddrWritesOnlyAddr := by
  refine ⟨byteWords_of_encode (fun _ => rfl) (fun _ => rfl) rfl, exec_setAddr, fun s => ?_⟩
  refine ⟨s.setAddr 0x00, exec_setAddr s 0x00, rfl, ?_⟩
  rw [exec_frameBuild_zero, State.setAddr_addr, encodeFrame_of_crc16 crc16_template_zero_addr_00]
  rfl

/-- Settles O12: opcode 0x11 takes no ARG; an empty frame shows zeros in FLEN and in the whole window. -/
theorem frameClearEmptiesFrame : Obligations.FrameClearEmptiesFrame := by
  refine ⟨soleWord_of_encode rfl rfl (by decide), fun s => ⟨exec_frameClear s, rfl, fun w hw => ?_⟩⟩
  rw [regRead_frame _ w hw, frameWord_of_empty rfl]

/-- Settles O13: opcode 0x12 takes any ARG; the three branches are the command's equations. -/
theorem framePushAppendsOrFails : Obligations.FramePushAppendsOrFails := by
  refine ⟨byteWords_of_encode (fun _ => rfl) (fun _ => rfl) rfl, ?closed, ?full, ?room⟩
  case closed =>
    intro s d hsealed
    rw [exec_framePush_of_sealed d hsealed, raiseErr_eq]
    rfl
  case full =>
    intro s d hopen hfull
    rw [exec_framePush_of_full d hopen hfull, raiseErr_eq]
    rfl
  case room =>
    intro s d hopen hroom
    rw [exec_framePush_of_room d hopen hroom, ← hopen]
    rfl

/-- Settles O14: opcode 0x13 takes no ARG; the frame's bound is the invariant's, kept by the command, and CRC_BYTEs before or after
write an accumulator that the command neither reads nor writes. -/
theorem frameSealAppendsChecksum : Obligations.FrameSealAppendsChecksum := by
  have hseal {s : State} (hopen : s.sealed = false) : exec .frameSeal s = .next (s.setFrame (s.fbuf ++
      [(crc16 fcb s.fbuf).extractLsb' 0 8, (crc16 fcb s.fbuf).extractLsb' 8 8]) true) := by
    rw [exec_frameSeal_of_open hopen, encodeFrame_fcb]
  refine ⟨soleWord_of_encode rfl rfl (by decide), ?closed, fun s => hseal, ?bound, ?empty, ?vector, ?crc⟩
  case closed =>
    intro s hsealed
    rw [exec_frameSeal_of_sealed hsealed, raiseErr_eq]
    rfl
  case bound =>
    intro s t hs _ ht
    obtain ⟨u, hu, ⟨hlen, -⟩, -⟩ := inv_exec .frameSeal hs
    obtain rfl := Host.Outcome.next.inj (ht.symm.trans hu)
    exact hlen
  case empty =>
    intro s hopen hempty
    rw [hseal hopen, hempty]
    rfl
  case vector =>
    intro s hopen hbytes
    rw [hseal hopen, hbytes, crc16_template_one_addr_ff]
    rfl
  case crc =>
    intro s _ cs
    obtain ⟨t, ht, hcommutes⟩ := exec_frameSeal_commutes_setCrc s
    have hcrc : t.crc = s.crc := by
      have heq : t = t.setCrc s.crc := Host.Outcome.next.inj (ht.symm.trans (hcommutes s.crc))
      rw [heq, State.setCrc_crc]
    rw [execAll_append (execAll_crcBytes cs s), execAll_singleton, hcommutes, execAll_cons ht, execAll_crcBytes, hcrc]

/-- Settles O15: opcode 0x14 takes any ARG; ids 0 and 1 have the two templates, and the example's frame is template 0 with its CRC
evaluated. -/
theorem frameBuildBuildsTemplates : Obligations.FrameBuildBuildsTemplates := by
  refine ⟨byteWords_of_encode (fun _ => rfl) (fun _ => rfl) rfl, ?zero, ?one, ?reserved, ?vector⟩
  case zero =>
    intro s
    rw [exec_frameBuild_zero, encodeFrame_fcb]
    rfl
  case one =>
    intro s
    rw [exec_frameBuild_one, encodeFrame_fcb]
    rfl
  case reserved =>
    intro s n hn
    rw [exec_frameBuild_of_reserved hn, raiseErr_eq]
    rfl
  case vector =>
    intro s haddr
    refine ⟨s.setFrame [0x06, 0xFF, 0x01, 0x00, 0x06, 0x28, 0xF1] true, ?next, rfl, rfl, rfl, ?word0, ?word1⟩
    case next =>
      rw [exec_frameBuild_zero, haddr, encodeFrame_of_crc16 crc16_template_zero_addr_ff]
      rfl
    case word0 | word1 =>
      rw [regRead_frame _ _ (by decide)]
      simp [frameWord, frameByte, zext]

/-- Settles O45: FRAME_CLEAR, the pushes and FRAME_SEAL are the FRAME sequence of the template's bytes, which fit. -/
theorem frameBuildEqualsPushSequence : Obligations.FrameBuildEqualsPushSequence := by
  intro s
  have hzero := exec_frameBuild_zero s
  have hone := exec_frameBuild_one s
  exact ⟨hzero.trans (execAll_frameSequence (by simp) s).symm, hone.trans (execAll_frameSequence (by simp) s).symm,
    _, _, hzero, hone, rfl, rfl⟩

/-- Settles O46: SET_ADDR writes no field of a built frame, and FRAME_BUILD reads the address when it runs. -/
theorem addressIsBoundAtBuild : Obligations.AddressIsBoundAtBuild := by
  intro s a n hn
  have hbuild := exec_frameBuild_of_lt_two hn s
  refine ⟨_, _, hbuild, ?_, (execAll_cons hbuild _).trans (execAll_setAddr_frameBuild hn a _), rfl, rfl, rfl⟩
  rw [execAll_cons hbuild, execAll_singleton, exec_setAddr]
  rfl

/-- Settles O47: SET_ADDR and FRAME_BUILD give the template's frame, whose CRC is evaluated for each row of the table. -/
theorem templateFramesOfTable : Obligations.TemplateFramesOfTable := by
  intro s
  exact ⟨⟨_, execAll_setAddr_frameBuild (by decide) 0xFF s, encodeFrame_of_crc16 crc16_template_zero_addr_ff⟩,
    ⟨_, execAll_setAddr_frameBuild (by decide) 0xFF s, encodeFrame_of_crc16 crc16_template_one_addr_ff⟩,
    ⟨_, execAll_setAddr_frameBuild (by decide) 0x00 s, encodeFrame_of_crc16 crc16_template_zero_addr_00⟩,
    ⟨_, execAll_setAddr_frameBuild (by decide) 0x00 s, encodeFrame_of_crc16 crc16_template_one_addr_00⟩,
    crc16_template_zero_addr_ff, crc16_template_one_addr_ff, crc16_template_zero_addr_00, crc16_template_one_addr_00⟩

end Sys2Proof.Machine
end

-- ==== Proofs: the matcher over a response ====
section
/-!
SUPPORT. What the matcher holds after each byte and after a whole response, under either alignment of the markers (42_match.md
R150 to R157), and what RESULT shows of it.
-/

namespace Sys2Proof.Machine

/-! Accepting a byte (42_match.md R152), under either alignment of the markers. -/

section
variable {cfg : Config} (hmax : cfg.respMax = 512)
include hmax

/-- A byte after 512 accepted ones is dropped. -/
theorem acceptByte_of_full {s : State} (d : Byte) (h : s.rcount = 512) : acceptByte cfg d s = s.setOvf true := by
  have hcases := acceptByte_cases cfg d s
  rw [hmax] at hcases
  obtain ⟨-, heq⟩ | ⟨hroom, -⟩ := hcases
  · exact heq
  · exact absurd h hroom

/-- Any other byte is tested, shifted in and counted. -/
theorem acceptByte_of_not_full {s : State} (d : Byte) (h : s.rcount ≠ 512) : acceptByte cfg d s =
    s.setResponse (s.rcount + 1) (shiftIn s.rlast d) (s.matched || markerHit cfg s.rcount s.rlast d) := by
  have hcases := acceptByte_cases cfg d s
  rw [hmax] at hcases
  obtain ⟨hfull, -⟩ | ⟨-, heq⟩ := hcases
  · exact absurd hfull h
  · exact heq

end

/-- Nibbles across a byte boundary that spell a marker. -/
theorem nibCross_iff (p d : Byte) : nibCross p d = true ↔
    p.extractLsb' 0 4 = 0xF ∧ (d.extractLsb' 4 4 = 0xB ∨ d.extractLsb' 4 4 = 0xE) := by
  rw [nibCross, Bool.and_eq_true, Bool.or_eq_true, beq_iff_eq, beq_iff_eq, beq_iff_eq]

/-- This hardware's marker test, as R152 writes it. -/
theorem isMarker_fcb_eq (d : Byte) : isMarker fcb d = (d == 0xFB || d == 0xFE) := by
  rw [Bool.eq_iff_iff, isMarker_fcb, Bool.or_eq_true, beq_iff_eq, beq_iff_eq]

/-- The marker test under the alternative alignment: the byte test, or the two nibbles across a byte boundary (R157). -/
theorem markerHit_fcbNibble (n : BitVec 10) (r : BitVec 24) (d : Byte) : markerHit fcbNibble n r d =
    (isMarker fcb d || (decide (1 ≤ n.toNat) && nibCross (byteAt r 0) d)) := rfl

/-- The newest byte's low nibble. -/
theorem byteAt_low_nibble (r : BitVec 24) : (byteAt r 0).extractLsb' 0 4 = r.extractLsb' 0 4 := by
  ext k hk
  simp [byteAt]

/-! The last bytes of a response (10_state.md R28). -/

/-- What the last-bytes register holds after a response's bytes are shifted in from 0. -/
def lastBytes (bs : List Byte) : BitVec 24 := bs.foldl shiftIn 0

theorem lastBytes_append_singleton (bs : List Byte) (d : Byte) :
    lastBytes (bs ++ [d]) = shiftIn (lastBytes bs) d :=
  List.foldl_append

/-- Byte `j` of the register is the response's byte at place `j` from its end, and 0 where the response has none. -/
theorem byteAt_lastBytes (bs : List Byte) : ∀ j < 3, byteAt (lastBytes bs) j = bs.reverse.getD j 0 := by
  induction bs using List.reverseRecOn with
  | nil => decide
  | append_singleton bs d ih =>
    intro j hj
    rw [lastBytes_append_singleton, List.reverse_concat]
    cases j with
    | zero => exact byteAt_shiftIn_zero _ d
    | succ j => rw [byteAt_shiftIn_succ _ d j (by omega), ih j (by omega), List.getD_cons_succ]

/-- The register's bytes, oldest first and without those above the count, are the last three of the response, or all it has. -/
theorem drop_lastBytes (bs : List Byte) :
    [byteAt (lastBytes bs) 2, byteAt (lastBytes bs) 1, byteAt (lastBytes bs) 0].drop (3 - min bs.length 3) =
      bs.drop (bs.length - 3) := by
  rw [byteAt_lastBytes bs 2 (by decide), byteAt_lastBytes bs 1 (by decide), byteAt_lastBytes bs 0 (by decide),
    ← bs.length_reverse]
  obtain ⟨rs, rfl⟩ : ∃ rs : List Byte, bs = rs.reverse := ⟨bs.reverse, bs.reverse_reverse.symm⟩
  rw [List.reverse_reverse]
  match rs with
  | [] => rfl
  | [_] => rfl
  | [_, _] => rfl
  | d :: c :: b :: rs => simp

/-! Where a response has a marker (42_match.md R153, R157). -/

/-- The response `bs` has a marker byte, or, where the markers are sought at nibbles, one across a byte boundary. -/
def MarkerSeen (cfg : Config) (bs : List Byte) : Prop :=
  (∃ b ∈ bs, isMarker cfg b = true) ∨ cfg.matchAlign = .nibble ∧ ∃ p d, [p, d] <:+: bs ∧ nibCross p d = true

/-- A new pair of neighbours ends in the new byte. -/
theorem pair_infix_concat {α : Type} (p d e : α) (bs : List α) :
    [p, d] <:+: bs ++ [e] ↔ [p, d] <:+: bs ∨ bs.getLast? = some p ∧ d = e := by
  rw [List.infix_concat_iff, or_comm]
  refine or_congr_right ?_
  have hsplit : [p] ++ [d] <:+ bs ++ [e] ↔ [p] <:+ bs ∧ [d] = [e] := List.suffix_append_inj_of_length_eq rfl
  rw [List.singleton_inj] at hsplit
  exact hsplit.trans (and_congr_left fun _ => by rw [List.getLast?_eq_some_iff]; exact exists_congr fun _ => eq_comm)

/-- Neighbours by their places. -/
theorem pair_infix_iff_getElem? {α : Type} (p d : α) (bs : List α) :
    [p, d] <:+: bs ↔ ∃ n : Nat, bs[n]? = some p ∧ bs[n + 1]? = some d := by
  induction bs with
  | nil => simp
  | cons b bs ih =>
    rw [List.infix_cons_iff, ih, List.cons_prefix_cons]
    refine (or_congr_left ?_).trans
      (Nat.or_exists_add_one (p := fun n => (b :: bs)[n]? = some p ∧ (b :: bs)[n + 1]? = some d))
    cases bs with
    | nil => simp
    | cons c bs => simp [eq_comm]

/-- The test on accepting `d` after the bytes `bs` looks at `d`, and at the byte before it. -/
theorem markerHit_lastBytes (cfg : Config) {bs : List Byte} (h : bs.length < 1024) (d : Byte) :
    markerHit cfg (BitVec.ofNat 10 bs.length) (lastBytes bs) d = true ↔
      isMarker cfg d = true ∨ cfg.matchAlign = .nibble ∧ ∃ p, bs.getLast? = some p ∧ nibCross p d = true := by
  have hcount : (BitVec.ofNat 10 bs.length).toNat = bs.length := Nat.mod_eq_of_lt h
  have hlast : byteAt (lastBytes bs) 0 = bs.getLast?.getD 0 := by
    rw [byteAt_lastBytes bs 0 (by decide), List.getD_eq_getElem?_getD, ← List.head?_eq_getElem?, List.head?_reverse]
  rw [markerHit, hcount, hlast]
  cases bs using List.reverseRecOn with
  | nil => simp
  | append_singleton bs p => simp

/-- One more byte shows a marker exactly when its test does. -/
theorem markerSeen_append_singleton (cfg : Config) {bs : List Byte} (h : bs.length < 1024) (d : Byte) :
    MarkerSeen cfg (bs ++ [d]) ↔
      MarkerSeen cfg bs ∨ markerHit cfg (BitVec.ofNat 10 bs.length) (lastBytes bs) d = true := by
  have hbyte : (∃ b ∈ bs ++ [d], isMarker cfg b = true) ↔
      (∃ b ∈ bs, isMarker cfg b = true) ∨ isMarker cfg d = true := by
    simp only [List.mem_append, List.mem_singleton, or_and_right, exists_or, exists_eq_left]
  have hpair : (∃ p e, [p, e] <:+: bs ++ [d] ∧ nibCross p e = true) ↔
      (∃ p e, [p, e] <:+: bs ∧ nibCross p e = true) ∨ ∃ p, bs.getLast? = some p ∧ nibCross p d = true := by
    simp only [pair_infix_concat, or_and_right, exists_or, and_assoc, exists_and_left, exists_eq_left]
  rw [MarkerSeen, MarkerSeen, hbyte, hpair, markerHit_lastBytes cfg h, and_or_left, or_or_or_comm]

/-- This hardware seeks the markers at bytes. -/
theorem markerSeen_fcb (bs : List Byte) : MarkerSeen fcb bs ↔ 0xFB ∈ bs ∨ 0xFE ∈ bs := by
  have halign : fcb.matchAlign ≠ .nibble := by decide
  simp only [MarkerSeen, isMarker_fcb, halign, false_and, or_false, and_or_left, exists_or, exists_eq_right]

/-- Under the alternative alignment a marker may also stand across a byte boundary. -/
theorem markerSeen_fcbNibble (bs : List Byte) : MarkerSeen fcbNibble bs ↔
    (0xFB ∈ bs ∨ 0xFE ∈ bs) ∨ ∃ p d, [p, d] <:+: bs ∧ nibCross p d = true := by
  rw [← markerSeen_fcb]
  simp [MarkerSeen, fcbNibble, isMarker, fcb]

/-! The bytes of a response, one after another. -/

/-- The matcher takes the bytes of `bs` in order. -/
def acceptAll (cfg : Config) (bs : List Byte) (s : State) : State := bs.foldl (fun u d => acceptByte cfg d u) s

theorem acceptAll_append (cfg : Config) (bs ds : List Byte) (s : State) :
    acceptAll cfg (bs ++ ds) s = acceptAll cfg ds (acceptAll cfg bs s) :=
  List.foldl_append

/-- After a response of at most 512 bytes the matcher holds its length, its last bytes and whether it has a marker. -/
theorem acceptAll_clearResponse {cfg : Config} (hmax : cfg.respMax = 512) {bs : List Byte} (h : bs.length ≤ 512)
    (s : State) : ∃ m, (m = true ↔ MarkerSeen cfg bs) ∧ acceptAll cfg bs (clearResponse s) =
      (clearResponse s).setResponse (BitVec.ofNat 10 bs.length) (lastBytes bs) m := by
  induction bs using List.reverseRecOn with
  | nil => exact ⟨false, by simp [MarkerSeen], rfl⟩
  | append_singleton bs d ih =>
    rw [List.length_append, List.length_singleton] at h ⊢
    obtain ⟨m, hm, heq⟩ := ih (by omega)
    have hroom : BitVec.ofNat 10 bs.length ≠ 512 := fun hfull => by
      have : bs.length % 1024 = 512 := congrArg BitVec.toNat hfull
      omega
    refine ⟨m || markerHit cfg (BitVec.ofNat 10 bs.length) (lastBytes bs) d, ?_, ?_⟩
    · rw [markerSeen_append_singleton cfg (by omega), Bool.or_eq_true, hm]
    · rw [acceptAll_append, heq, lastBytes_append_singleton, BitVec.ofNat_add]
      exact acceptByte_of_not_full hmax d hroom

/-- A matcher that holds 512 bytes drops all that follow. -/
theorem acceptAll_of_full {cfg : Config} (hmax : cfg.respMax = 512) (d : Byte) (bs : List Byte) {s : State}
    (h : s.rcount = 512) : acceptAll cfg (d :: bs) s = s.setOvf true := by
  have hdrop : acceptAll cfg (d :: bs) s = acceptAll cfg bs (s.setOvf true) :=
    congrArg (acceptAll cfg bs) (acceptByte_of_full hmax d h)
  cases bs with
  | nil => exact hdrop
  | cons b bs => exact hdrop.trans (acceptAll_of_full hmax b bs h)

/-- A byte's acceptance reads the matcher's fields alone (42_match.md R150). -/
theorem acceptByte_sameMatcher (cfg : Config) (d : Byte) {s t : State} (h : SameMatcher s t) :
    SameMatcher (acceptByte cfg d s) (acceptByte cfg d t) := by
  obtain ⟨hrcount, hrlast, hmatched, hovf⟩ := h
  rw [acceptByte, acceptByte, hrcount, hrlast, hmatched]
  split
  · exact ⟨hrcount, hrlast, hmatched, rfl⟩
  · exact ⟨rfl, rfl, rfl, hovf⟩

theorem acceptAll_sameMatcher (cfg : Config) (bs : List Byte) {s t : State} (h : SameMatcher s t) :
    SameMatcher (acceptAll cfg bs s) (acceptAll cfg bs t) := by
  induction bs generalizing s t with
  | nil => exact h
  | cons b bs ih => exact ih (acceptByte_sameMatcher cfg b h)

/-- A response begins with the matcher as reset leaves it, so what it comes to is the same from every state. -/
theorem response_sameMatcher_reset (cfg : Config) (bs : List Byte) (s : State) :
    SameMatcher (acceptAll cfg bs (clearResponse s)) (acceptAll cfg bs State.reset) :=
  acceptAll_sameMatcher cfg bs ⟨rfl, rfl, rfl, rfl⟩

/-- RESP_BYTE for each byte in order. -/
theorem execAll_respBytes (bs : List Byte) (s : State) : execAll (bs.map .respByte) s = .next (acceptAll fcb bs s) := by
  induction bs generalizing s with
  | nil => rfl
  | cons b bs ih =>
    rw [List.map_cons, execAll_cons (exec_respByte s b), ih]
    rfl

/-- The RESP sequence (30_encoding.md R88). -/
theorem execAll_resp (bs : List Byte) (s : State) :
    execAll (Pseudo.resp bs).expand s = .next (acceptAll fcb bs (clearResponse s)) :=
  (execAll_cons (exec_respStart s) _).trans (execAll_respBytes bs _)

/-- RESP of at most 512 bytes, from every state. -/
theorem execAll_resp_of_le {bs : List Byte} (h : bs.length ≤ 512) (s : State) :
    ∃ m, (m = true ↔ 0xFB ∈ bs ∨ 0xFE ∈ bs) ∧ execAll (Pseudo.resp bs).expand s =
      .next ((clearResponse s).setResponse (BitVec.ofNat 10 bs.length) (lastBytes bs) m) := by
  obtain ⟨m, hm, heq⟩ := acceptAll_clearResponse (cfg := fcb) rfl h s
  exact ⟨m, hm.trans (markerSeen_fcb bs), (execAll_resp bs s).trans (congrArg _ heq)⟩

/-- The count of at most 512 accepted bytes is 0 for the empty response alone. -/
theorem ofNat_length_eq_zero_iff {bs : List Byte} (h : bs.length ≤ 512) : BitVec.ofNat 10 bs.length = 0 ↔ bs = [] := by
  rw [← BitVec.toNat_inj, BitVec.toNat_ofNat, Nat.mod_eq_of_lt (by omega), ← List.length_eq_zero_iff]
  rfl

/-! What the host reads in RESULT. -/

/-- The class reads the matcher's fields alone. -/
theorem classify_congr {s t : State} (h : SameMatcher s t) : classify s = classify t := by
  obtain ⟨hrcount, -, hmatched, -⟩ := h
  rw [classify, classify, hrcount, hmatched]

/-- RESULT shows the matcher's fields alone. -/
theorem resultWord_congr (cfg : Config) {s t : State} (h : SameMatcher s t) : resultWord cfg s = resultWord cfg t := by
  have hclass := classify_congr h
  obtain ⟨hrcount, hrlast, -, -⟩ := h
  rw [resultWord, resultWord, hclass, uidLen, uidLen, hrcount, hrlast]

/-- RESULT after a response, from every state. -/
theorem regRead_result_of_response (bs : List Byte) (s : State) :
    regRead 0x07 (acceptAll fcb bs (clearResponse s)) = resultWord fcb (acceptAll fcb bs State.reset) :=
  resultWord_congr fcb (response_sameMatcher_reset fcb bs s)

/-- Each byte of RESULT's UID is that of the last-bytes register. -/
theorem resultWord_byteAt (s : State) : ∀ j < 3, byteAt (resultWord fcb s) j = byteAt s.rlast j := by
  intro j hj
  rw [← resultWord_uid, byteAt, byteAt]
  ext k hk
  simp [show 8 * j + k < 24 by omega]

/-- The outcome by the matcher's fields (42_match.md R154, R156). -/
theorem outcomeOfResult_resultWord (s : State) : outcomeOfResult (resultWord fcb s) =
    some (if s.rcount = 0 then .noResponse else if s.matched then .cardNotDetected
      else .uid (uidText (resultWord fcb s))) := by
  rw [outcomeOfResult, resultWord_class, classCode_classify]
  by_cases hcount : s.rcount = 0
  · rw [if_pos hcount, if_pos hcount]
    rfl
  · rw [if_neg hcount, if_neg hcount]
    cases s.matched <;> rfl

/-- CLASS 2, Uid, says that no marker was seen. -/
theorem matched_of_class_uid {s : State} (h : (resultWord fcb s).extractLsb' 28 2 = 2) : s.matched = false := by
  rw [resultWord_class, classCode_classify] at h
  cases hm : s.matched with
  | false => rfl
  | true =>
    rw [hm] at h
    split at h <;> contradiction

end Sys2Proof.Machine
end

-- ==== Proofs: the hex text of a response ====
section
/-!
SUPPORT. The text of RESULT's UID, and the markers' texts in the text of a response (00_scope.md R11, 42_match.md R156, R157).
-/

namespace Sys2Proof.Machine

theorem hexstr_cons (b : Byte) (bs : List Byte) :
    hexstr (b :: bs) = hexDigit (b.extractLsb' 4 4) :: hexDigit (b.extractLsb' 0 4) :: hexstr bs := rfl

/-- Leaving out bytes leaves out their two digits each. -/
theorem drop_hexstr (k : Nat) (bs : List Byte) : (hexstr bs).drop (2 * k) = hexstr (bs.drop k) := by
  induction k generalizing bs with
  | zero => rfl
  | succ k ih =>
    cases bs with
    | nil => rfl
    | cons b bs => exact ih bs

/-- The text of RESULT's UID: the accepted ones of the last three bytes. -/
theorem uidText_resultWord (s : State) : uidText (resultWord fcb s) =
    hexstr ([byteAt s.rlast 2, byteAt s.rlast 1, byteAt s.rlast 0].drop (3 - min s.rcount.toNat 3)) := by
  rw [← drop_hexstr, uidText, resultWord_uidLen, resultWord_byteAt s 2 (by decide), resultWord_byteAt s 1 (by decide),
    resultWord_byteAt s 0 (by decide), Nat.mul_sub]

/-- The sixteen digits differ. -/
theorem hexDigit_inj : ∀ {m n : BitVec 4}, hexDigit m = hexDigit n ↔ m = n := by decide

/-- A byte is its two nibbles. -/
theorem append_nibbles_eq_iff (x y : BitVec 4) (b : Byte) :
    x ++ y = b ↔ b.extractLsb' 4 4 = x ∧ b.extractLsb' 0 4 = y := by
  constructor
  · rintro rfl
    exact ⟨BitVec.extractLsb'_append_eq_left, BitVec.extractLsb'_append_eq_right⟩
  · rintro ⟨rfl, rfl⟩
    rw [BitVec.extractLsb'_append_extractLsb'_eq_extractLsb' (Nat.zero_add 4).symm]
    exact BitVec.extractLsb'_eq_self

/-- A hex text begins with its first byte's high digit. -/
theorem digit_prefix_hexstr_iff (y : BitVec 4) (bs : List Byte) :
    [hexDigit y] <+: hexstr bs ↔ ∃ d, [d] <+: bs ∧ d.extractLsb' 4 4 = y := by
  cases bs with
  | nil => simp [hexstr]
  | cons b bs => simp [hexstr_cons, hexDigit_inj, eq_comm]

/-- Two digits stand in a hex text as one byte's two, or as the last of a byte and the first of the next. -/
theorem digits_infix_hexstr_iff (x y : BitVec 4) (bs : List Byte) :
    [hexDigit x, hexDigit y] <:+: hexstr bs ↔
      x ++ y ∈ bs ∨ ∃ p d, [p, d] <:+: bs ∧ p.extractLsb' 0 4 = x ∧ d.extractLsb' 4 4 = y := by
  induction bs with
  | nil => simp [hexstr]
  | cons b bs ih =>
    have hwithin : [hexDigit x, hexDigit y] <+: hexstr (b :: bs) ↔ x ++ y = b := by
      rw [append_nibbles_eq_iff, hexstr_cons]
      simp [hexDigit_inj, eq_comm]
    have hacross : [hexDigit x, hexDigit y] <+: hexDigit (b.extractLsb' 0 4) :: hexstr bs ↔
        ∃ p d, [p, d] <+: b :: bs ∧ p.extractLsb' 0 4 = x ∧ d.extractLsb' 4 4 = y := by
      rw [List.cons_prefix_cons, hexDigit_inj, digit_prefix_hexstr_iff]
      simp only [List.cons_prefix_cons, and_assoc, exists_and_left, exists_eq_left]
      rw [eq_comm, ← exists_and_left]
      exact exists_congr fun _ => and_left_comm
    calc [hexDigit x, hexDigit y] <:+: hexstr (b :: bs)
      _ ↔ [hexDigit x, hexDigit y] <+: hexstr (b :: bs) ∨
          [hexDigit x, hexDigit y] <+: hexDigit (b.extractLsb' 0 4) :: hexstr bs ∨
          [hexDigit x, hexDigit y] <:+: hexstr bs := by
        rw [hexstr_cons, List.infix_cons_iff, List.infix_cons_iff]
      _ ↔ x ++ y = b ∨ (∃ p d, [p, d] <+: b :: bs ∧ p.extractLsb' 0 4 = x ∧ d.extractLsb' 4 4 = y) ∨
          (x ++ y ∈ bs ∨ ∃ p d, [p, d] <:+: bs ∧ p.extractLsb' 0 4 = x ∧ d.extractLsb' 4 4 = y) := by
        rw [hwithin, hacross, ih]
      _ ↔ _ := by
        simp only [List.mem_cons, List.infix_cons_iff, or_and_right, exists_or, or_assoc, or_left_comm]

/-- The text of "FB" and of "FE" in a hex text, as markers at nibbles (42_match.md R157). -/
theorem markerSeen_fcbNibble_iff_text (bs : List Byte) :
    MarkerSeen fcbNibble bs ↔ ['F', 'B'] <:+: hexstr bs ∨ ['F', 'E'] <:+: hexstr bs := by
  have hB : ['F', 'B'] <:+: hexstr bs ↔ _ := digits_infix_hexstr_iff 0xF 0xB bs
  have hE : ['F', 'E'] <:+: hexstr bs ↔ _ := digits_infix_hexstr_iff 0xF 0xE bs
  rw [markerSeen_fcbNibble, hB, hE, or_or_or_comm]
  simp only [nibCross_iff, and_or_left, exists_or]
  rfl

end Sys2Proof.Machine
end

-- ==== Proofs: the statements about the matcher ====
section
/-!
The obligations of 42_match.md R151 to R161, each put together from the rules above.
-/

namespace Sys2Proof.Machine

/-- Settles O17: opcode 0x20 takes no ARG; RESULT reads the cleared fields alone. -/
theorem respStartClearsMatcher : Obligations.RespStartClearsMatcher :=
  ⟨soleWord_of_encode rfl rfl (by decide), fun s => ⟨clearResponse s, exec_respStart s, clearResponse_eq s,
    (regRead_result_of_response [] s).trans (by decide)⟩⟩

/-- Settles O18: opcode 0x21 takes any ARG; the two branches are the byte's equations under either alignment, and the example
is a RESP sequence. -/
theorem respByteAcceptsOrDrops : Obligations.RespByteAcceptsOrDrops := by
  refine ⟨byteWords_of_encode (fun _ => rfl) (fun _ => rfl) rfl, ?full, ?room, ?fullNibble, ?roomNibble, ?vector⟩
  case full =>
    intro s d h
    rw [exec_respByte, acceptByte_of_full rfl d h]
    rfl
  case room =>
    intro s d h
    rw [exec_respByte, acceptByte_of_not_full rfl d h, markerHit_fcb, isMarker_fcb_eq, ← Bool.or_assoc]
    rfl
  case fullNibble => exact fun s d h => acceptByte_of_full rfl d h
  case roomNibble =>
    intro s d h
    rw [acceptByte_of_not_full rfl d h, markerHit_fcbNibble, isMarker_fcb_eq, nibCross, byteAt_low_nibble,
      ← Bool.or_assoc, ← Bool.or_assoc, ← Bool.and_assoc]
    rfl
  case vector =>
    intro s
    exact ⟨_, execAll_resp [0x11, 0x22, 0x33] s, rfl, (regRead_result_of_response _ s).trans (by decide)⟩

/-- Settles O48: RESULT's fields are the response's length, last bytes and marker test, and the outcome branches on them as the
source's decode does. -/
theorem responseOutcomeAgreesWithSourceDecode : Obligations.ResponseOutcomeAgreesWithSourceDecode := by
  intro bs s hlen
  obtain ⟨m, hmark, hexec⟩ := execAll_resp_of_le hlen s
  have hcount : (BitVec.ofNat 10 bs.length).toNat = bs.length := Nat.mod_eq_of_lt (by omega)
  refine ⟨_, hexec, ?outcome, ?uidLen, ?uid, rfl⟩
  case outcome =>
    rw [regRead_result, outcomeOfResult_resultWord, uidText_resultWord]
    simp only [State.setResponse_rcount, State.setResponse_rlast, State.setResponse_matched]
    rw [hcount, drop_lastBytes]
    exact congrArg some (if_congr (ofNat_length_eq_zero_iff hlen) rfl (if_congr hmark rfl rfl))
  case uidLen =>
    rw [regRead_result, resultWord_uidLen, State.setResponse_rcount, hcount]
  case uid =>
    intro j hj
    rw [regRead_result, ← byteAt, resultWord_byteAt _ j (by omega), State.setResponse_rlast,
      byteAt_lastBytes bs j (by omega), List.getD_eq_getElem _ _ (by simp; omega), List.getElem?_eq_getElem]

/-- Settles O49: the marker seen across a byte boundary is the pair of digits that spans it in the hex text. -/
theorem nibbleAlignmentIsSubstringTest : Obligations.NibbleAlignmentIsSubstringTest := by
  refine ⟨fun bs s hlen => ?markers, fun s => ?vector⟩
  case markers =>
    obtain ⟨m, hmark, heq⟩ := acceptAll_clearResponse (cfg := fcbNibble) rfl hlen s
    have hmatched : (acceptAll fcbNibble bs (clearResponse s)).matched = true ↔ MarkerSeen fcbNibble bs := by
      rw [heq, State.setResponse_matched, hmark]
    refine ⟨hmatched.trans (markerSeen_fcbNibble_iff_text bs), hmatched.trans ?_⟩
    rw [markerSeen_fcbNibble]
    simp only [pair_infix_iff_getElem?, nibCross_iff]
    exact or_congr_right ⟨fun ⟨p, d, ⟨n, hp, hd⟩, h⟩ => ⟨n, p, d, hp, hd, h⟩,
      fun ⟨n, p, d, hp, hd, h⟩ => ⟨p, d, ⟨n, hp, hd⟩, h⟩⟩
  case vector =>
    have hnibble := response_sameMatcher_reset fcbNibble [0x0F, 0xB0] s
    have hbyte := response_sameMatcher_reset fcb [0x0F, 0xB0] s
    have ⟨_, hrlast, _⟩ := hbyte
    exact ⟨(classify_congr hnibble).trans (by decide), (classify_congr hbyte).trans (by decide), hrlast.trans (by decide)⟩

/-- Settles O50: the first 512 bytes fill the matcher, and all that follow only set `ovf`, which RESULT does not show. -/
theorem overlongResponseKeepsFirst512Bytes : Obligations.OverlongResponseKeepsFirst512Bytes := by
  intro bs s hlen
  have htake : (bs.take 512).length = 512 := List.length_take_of_le hlen.le
  obtain ⟨m, -, heq⟩ := acceptAll_clearResponse (cfg := fcb) rfl htake.le s
  rw [htake] at heq
  obtain ⟨d, ds, hrest⟩ : ∃ d ds, bs.drop 512 = d :: ds := List.exists_cons_of_length_pos (by simp [hlen])
  have hall : acceptAll fcb bs (clearResponse s) = (acceptAll fcb (bs.take 512) (clearResponse s)).setOvf true := by
    rw [← acceptAll_of_full (cfg := fcb) rfl d ds (by rw [heq]; rfl), ← hrest, ← acceptAll_append, List.take_append_drop]
  refine ⟨_, _, execAll_resp _ s, ?_, ?_, execAll_resp bs s, hall, ?_⟩
  · rw [heq]; rfl
  · rw [heq]; rfl
  · rw [hall]; rfl

/-- Settles O51: a response with a marker has `match` set and is not empty; the second clause is the invariant's, kept by every
step. -/
theorem markerAnywhereExcludesUid : Obligations.MarkerAnywhereExcludesUid := by
  refine ⟨?marker, ?uid, fun s => ⟨_, execAll_resp [0x11, 0xFB, 0x33] s,
    (regRead_result_of_response _ s).trans (by decide)⟩⟩
  case marker =>
    intro bs s hlen hmem
    obtain ⟨m, hmark, hexec⟩ := execAll_resp_of_le hlen s
    refine ⟨_, hexec, ?_⟩
    have hcount : BitVec.ofNat 10 bs.length ≠ 0 := fun h => by
      rw [(ofNat_length_eq_zero_iff hlen).mp h] at hmem
      simp at hmem
    rw [regRead_result, resultWord_class, classCode_classify, State.setResponse_rcount, State.setResponse_matched,
      if_neg hcount, if_pos (hmark.mpr hmem)]
  case uid =>
    intro s t hs hstep hclass j hj
    obtain ⟨-, ⟨-, -, -, -, hbytes⟩, -⟩ := everyStepKeepsInvariant s t hs hstep
    have hbyte := hbytes (matched_of_class_uid hclass) j hj
    rw [← resultWord_byteAt t j hj] at hbyte
    exact hbyte

end Sys2Proof.Machine
end

-- ==== Proofs: the failing commands and the words that are no command ====
section
/-!
SUPPORT. What a command does to the error record, by its cause of failure (60_exceptions.md R201, R202), and the illegal words as
those that spell no command's OP and ARG (30_encoding.md R84, R87).
-/

namespace Sys2Proof.Machine

/-! The error record. -/

/-- A command with a cause of failure raises its code, and that is all it does (60_exceptions.md R203). -/
theorem exec_of_failure {i : Instr} {s : State} {e : ErrCode} (h : failure i s = some e) :
    exec i s = .next (raiseErr e s) := by
  cases i with
  | framePush d =>
    cases hsealed : s.sealed with
    | true =>
      obtain rfl : ErrCode.sealed = e := by simpa [failure, hsealed] using h
      exact exec_framePush_of_sealed d hsealed
    | false =>
      obtain ⟨hfull, rfl⟩ : s.fbuf.length = 254 ∧ ErrCode.full = e := by simpa [failure, hsealed] using h
      exact exec_framePush_of_full d hsealed hfull
  | frameSeal =>
    obtain ⟨hsealed, rfl⟩ : s.sealed = true ∧ ErrCode.sealed = e := by simpa [failure] using h
    exact exec_frameSeal_of_sealed hsealed
  | frameBuild n =>
    obtain ⟨hreserved, rfl⟩ : 2 ≤ n.toNat ∧ ErrCode.template = e := by simpa [failure] using h
    exact exec_frameBuild_of_reserved hreserved s
  | _ => exact nomatch h

/-- A command without a cause of failure completes, and leaves the error record unless it is one that clears it. -/
theorem exec_keeps_err_of_no_failure {i : Instr} {s : State} (h : failure i s = none) (hclears : ¬ ClearsErr i) :
    ∃ t, exec i s = .next t ∧ t.err = s.err := by
  cases i with
  | nop => exact ⟨_, exec_nop s, rfl⟩
  | crcInit => exact ⟨_, exec_crcInit s, rfl⟩
  | crcByte d => exact ⟨_, exec_crcByte s d, rfl⟩
  | setAddr a => exact ⟨_, exec_setAddr s a, rfl⟩
  | frameClear => exact ⟨_, exec_frameClear s, rfl⟩
  | framePush d =>
    cases hsealed : s.sealed with
    | true => simp [failure, hsealed] at h
    | false =>
      have hroom : s.fbuf.length ≠ 254 := by simpa [failure, hsealed] using h
      exact ⟨_, exec_framePush_of_room d hsealed hroom, rfl⟩
  | frameSeal =>
    have hopen : s.sealed = false := by simpa [failure] using h
    exact ⟨_, exec_frameSeal_of_open hopen, rfl⟩
  | frameBuild n =>
    have hid : n.toNat < 2 := by simpa [failure] using h
    exact ⟨_, exec_frameBuild_of_lt_two hid s, rfl⟩
  | respStart => exact ⟨_, exec_respStart s, rfl⟩
  | respByte d =>
    refine ⟨_, exec_respByte s d, ?_⟩
    obtain ⟨-, heq⟩ | ⟨-, heq⟩ := acceptByte_cases fcb d s <;> rw [heq]
  | clrErr => exact absurd (.inl rfl) hclears
  | softReset => exact absurd (.inr rfl) hclears

/-- With a code recorded, failing or not, a command leaves it unless it is one that clears it (60_exceptions.md R202). -/
theorem exec_keeps_recorded_err {i : Instr} {s : State} (herr : s.err ≠ 0) (hclears : ¬ ClearsErr i) :
    ∃ t, exec i s = .next t ∧ t.err = s.err := by
  cases hfail : failure i s with
  | some e => exact ⟨s, (exec_of_failure hfail).trans (congrArg _ (raiseErr_of_recorded e s herr)), rfl⟩
  | none => exact exec_keeps_err_of_no_failure hfail hclears

/-- Clearing the record takes no cause of failure away and adds none: no cause reads `err`. -/
theorem failure_clearErr (i : Instr) (s : State) : failure i (clearErr s) = failure i s := by
  cases i <;> rfl

/-- On a cleared record the code raised is the code recorded (60_exceptions.md R205). -/
theorem raiseErr_clearErr (e : ErrCode) (s : State) : raiseErr e (clearErr s) = s.setErr e.code := rfl

/-! The words that are no command. -/

/-- A word is illegal exactly when it is no command's encoding. -/
theorem isIllegal_iff_forall_ne (w : Word) : IsIllegal w ↔ ∀ i, w ≠ encode i := by
  rw [← not_iff_not, not_isIllegal_iff, not_forall]
  simp only [ne_eq, not_not, eq_comm]

/-- The commands are the seven without ARG and, for each byte, the five with it (30_encoding.md R82). -/
theorem forall_instr {p : Instr → Prop} : (∀ i, p i) ↔
    p .nop ∧ p .crcInit ∧ p .frameClear ∧ p .frameSeal ∧ p .respStart ∧ p .clrErr ∧ p .softReset ∧
    ∀ d : Byte, p (.crcByte d) ∧ p (.setAddr d) ∧ p (.framePush d) ∧ p (.frameBuild d) ∧ p (.respByte d) := by
  constructor
  · exact fun h => ⟨h _, h _, h _, h _, h _, h _, h _, fun _ => ⟨h _, h _, h _, h _, h _⟩⟩
  · rintro ⟨hnop, hcrcInit, hframeClear, hframeSeal, hrespStart, hclrErr, hsoftReset, hbytes⟩ i
    cases i with
    | nop => exact hnop
    | crcInit => exact hcrcInit
    | crcByte d => have ⟨h, _⟩ := hbytes d; exact h
    | setAddr a => have ⟨_, h, _⟩ := hbytes a; exact h
    | frameClear => exact hframeClear
    | framePush d => have ⟨_, _, h, _⟩ := hbytes d; exact h
    | frameSeal => exact hframeSeal
    | frameBuild n => have ⟨_, _, _, h, _⟩ := hbytes n; exact h
    | respStart => exact hrespStart
    | respByte d => have ⟨_, _, _, _, h⟩ := hbytes d; exact h
    | clrErr => exact hclrErr
    | softReset => exact hsoftReset

/-! The families of words with ARG, each a base word plus the byte (30_encoding.md R87). -/

/-- An opcode's base word plus the byte is the word of its command with that byte. -/
theorem encode_of_byteWords {op : BitVec 8} {base : Word} {build : Byte → Instr} (h : ByteWords op base build)
    (d : Byte) : encode (build d) = base + d.setWidth 32 := by
  obtain ⟨hdecode, -⟩ := h
  exact (decode_eq_legal_iff _ _).mp (hdecode d)

theorem encode_crcByte (d : Byte) : encode (.crcByte d) = 0x02000000 + d.setWidth 32 :=
  encode_of_byteWords (op := 0x02) (byteWords_of_encode (fun _ => rfl) (fun _ => rfl) rfl) d
theorem encode_setAddr (a : Byte) : encode (.setAddr a) = 0x10000000 + a.setWidth 32 :=
  encode_of_byteWords (op := 0x10) (byteWords_of_encode (fun _ => rfl) (fun _ => rfl) rfl) a
theorem encode_framePush (d : Byte) : encode (.framePush d) = 0x12000000 + d.setWidth 32 :=
  encode_of_byteWords (op := 0x12) (byteWords_of_encode (fun _ => rfl) (fun _ => rfl) rfl) d
theorem encode_respByte (d : Byte) : encode (.respByte d) = 0x21000000 + d.setWidth 32 :=
  encode_of_byteWords (op := 0x21) (byteWords_of_encode (fun _ => rfl) (fun _ => rfl) rfl) d

end Sys2Proof.Machine
end

-- ==== Proofs: the statements about the control commands ====
section
/-!
The obligations of 43_control.md, each put together from the rules above.
-/

namespace Sys2Proof.Machine

/-- Settles O21: a write to CMD executes its word and an illegal one only raises E_ILLEGAL; the commands, one by one, spell the seven
single words and the five families. -/
theorem illegalWordRecordsOnlyError : Obligations.IllegalWordRecordsOnlyError := by
  obtain ⟨-, -, hcount⟩ := illegalWordsAreExactlyThreeKinds
  refine ⟨?step, hcount, fun w => ?words⟩
  case step =>
    intro s w rest hpending hillegal
    rw [step_write_cmd hpending, execute_of_isIllegal hillegal]
    rfl
  case words =>
    rw [isIllegal_iff_forall_ne, forall_instr]
    simp only [encode_crcByte, encode_setAddr, encode_framePush, encode_frameBuild, encode_respByte]
    rfl

/-- Settles O6: opcode 0x00 takes no ARG, and the word 0 is NOP's. -/
theorem nopChangesNothing : Obligations.NopChangesNothing := by
  have hword : SoleWord 0x00 0x00000000 .nop := soleWord_of_encode rfl rfl (by decide)
  have ⟨hdecode, _⟩ := hword
  exact ⟨hword, exec_nop, fun s => (execute_of_legal 0 .nop s hdecode).trans (exec_nop s)⟩

/-- Settles O19: opcode 0x30 takes no ARG; a cause of failure does not depend on the record, and a cleared one takes the next code. -/
theorem clrErrClearsOnlyErr : Obligations.ClrErrClearsOnlyErr := by
  refine ⟨soleWord_of_encode rfl rfl (by decide), exec_clrErr, ?rearmed, fun i s => exec_keeps_recorded_err⟩
  intro i s e hfail
  have hfail' : failure i (clearErr s) = some e := (failure_clearErr i s).trans hfail
  rw [execAll_cons (exec_clrErr s), execAll_singleton, exec_of_failure hfail', raiseErr_clearErr]
  rfl

/-- Settles O20: opcode 0x3F takes no ARG; the command and the reset input leave the same block, and neither reads the one before. -/
theorem softResetRestoresResetState : Obligations.SoftResetRestoresResetState := by
  have hword : SoleWord 0x3F 0x3F000000 .softReset := soleWord_of_encode rfl rfl (by decide)
  refine ⟨hword, exec_softReset, fun s => ?twice, fun s rest => ?input⟩
  case twice =>
    rw [execAll_cons (exec_softReset s), execAll_singleton]
    rfl
  case input =>
    obtain ⟨hdecode, -⟩ := hword
    rw [step_reset rfl, step_write_cmd rfl, execute_of_legal _ _ _ hdecode, exec_softReset]
    rfl

end Sys2Proof.Machine
end

-- ==== Proofs: a recorded code over words, steps and runs ====
section
/-!
SUPPORT. The error record over a command word, over a step and over a run of events: a recorded code stays until one of the three
events that clear it (60_exceptions.md R202, R205).
-/

namespace Sys2Proof.Machine

/-- The two commands that clear the record have no cause of failure, and they do clear it. -/
theorem exec_of_clearsErr {i : Instr} (h : ClearsErr i) (s : State) :
    failure i s = none ∧ ∃ t, exec i s = .next t ∧ t.err = 0 := by
  obtain rfl | rfl := h
  · exact ⟨rfl, _, exec_clrErr s, rfl⟩
  · exact ⟨rfl, _, exec_softReset s, rfl⟩

/-- With a code recorded, every word but the two of the clearing commands leaves it, legal or not. -/
theorem execute_keeps_recorded_err {w : Word} {s : State} (herr : s.err ≠ 0) (hclr : w ≠ encode .clrErr)
    (hreset : w ≠ encode .softReset) : ∃ t, execute w s = .next t ∧ t.err = s.err := by
  cases hw : decode w with
  | legal i =>
    have hword : encode i = w := (decode_eq_legal_iff w i).mp hw
    have hclears : ¬ ClearsErr i := by
      rintro (rfl | rfl)
      · exact hclr hword.symm
      · exact hreset hword.symm
    rw [execute_of_legal w i s hw]
    exact exec_keeps_recorded_err herr hclears
  | illegal why =>
    rw [execute_of_illegal w why s hw, raiseErr_of_recorded .illegal s herr]
    exact ⟨s, rfl, rfl⟩

/-- With a code recorded, a step on any event but the three that clear it leaves it. -/
theorem step_keeps_recorded_err {s t : State} {e : HostEvent} {rest : List HostEvent} (h : s.pending = e :: rest)
    (herr : s.err ≠ 0) (hinput : e ≠ .reset) (hclr : e ≠ commandWrite (encode .clrErr))
    (hreset : e ≠ commandWrite (encode .softReset)) (hstep : step s = .next t) : t.err = s.err := by
  obtain ⟨-, rfl⟩ | ⟨_, _, -, -, rfl⟩ | ⟨_, _, _, -, -, -, rfl⟩ | ⟨w, rest', hwrite, hexec⟩ | ⟨rest', hpending, -⟩ :=
    step_cases hstep
  · rfl
  · rfl
  · rfl
  · obtain ⟨rfl, -⟩ := List.cons.inj (h.symm.trans hwrite)
    obtain ⟨u, hu, hkept⟩ := execute_keeps_recorded_err (s := s.setHost rest' none) herr
      (fun hw => hclr (congrArg commandWrite hw)) (fun hw => hreset (congrArg commandWrite hw))
    obtain rfl := Host.Outcome.next.inj (hu.symm.trans hexec)
    exact hkept
  · obtain ⟨he, -⟩ := List.cons.inj (h.symm.trans hpending)
    exact absurd he hinput

/-- Over a list of served events that holds none of the three, the run goes to the list's end and the code stays. -/
theorem run_keeps_recorded_err {es rest : List HostEvent} {s : State} (h : s.pending = es ++ rest) (herr : s.err ≠ 0)
    (hes : ∀ e ∈ es, Served e ∧ e ≠ .reset ∧ e ≠ commandWrite (encode .clrErr) ∧ e ≠ commandWrite (encode .softReset)) :
    ∃ t, core.run es.length s = .next t ∧ t.err = s.err ∧ t.pending = rest := by
  induction es generalizing s with
  | nil => exact ⟨s, rfl, rfl, h⟩
  | cons e es ih =>
    obtain ⟨⟨hserved, hinput, hclr, hreset⟩, htail⟩ := List.forall_mem_cons.mp hes
    obtain ⟨t, hstep, hpending⟩ := step_of_served h hserved
    have hkept : t.err = s.err := step_keeps_recorded_err h herr hinput hclr hreset hstep
    rw [List.length_cons, run_succ_of_step hstep, ← hkept]
    exact ih hpending (hkept ▸ herr) htail

end Sys2Proof.Machine
end

-- ==== Proofs: the statements about errors ====
section
/-!
The obligations of 60_exceptions.md on the error record, each put together from the rules above.
-/

namespace Sys2Proof.Machine

/-- Settles O22: a cause of failure or an illegal word only raises its code, and the commands without a cause are those that keep the
record and the two that clear it. -/
theorem failuresArePrecise : Obligations.FailuresArePrecise := by
  refine ⟨?fails, fun w s h => execute_of_isIllegal h s, fun i s => exec_keeps_err_of_no_failure,
    fun i s h => exec_of_clearsErr h s, rfl, rfl, rfl, rfl⟩
  intro i s e hfail
  rw [exec_of_failure hfail, raiseErr_eq]

/-- Settles O23: failing commands and illegal words go through `raiseErr`, and the run is an induction over the list of events. -/
theorem firstErrorCodeIsKeptUntilCleared : Obligations.FirstErrorCodeIsKeptUntilCleared :=
  ⟨raiseErr_eq, fun _ _ _ => exec_of_failure, fun w s h => execute_of_illegal w _ s (decode_of_isIllegal h),
    fun _ _ _ => run_keeps_recorded_err⟩

/-- Settles O24: the three clearing events one by one, any other event by the step's rule, and the commands of R205 by their
equations. -/
theorem onlyClearingEventsClearError : Obligations.OnlyClearingEventsClearError := by
  refine ⟨?clears, fun s t e rest => step_keeps_recorded_err, ?starts, ?builds⟩
  case clears =>
    rintro s e rest h (rfl | rfl | rfl)
    · exact ⟨_, step_reset h, rfl⟩
    · exact ⟨_, step_command (i := .clrErr) h, rfl⟩
    · exact ⟨_, step_command (i := .softReset) h, rfl⟩
  case starts => exact fun s => ⟨_, _, exec_respStart s, rfl, exec_frameClear s, rfl⟩
  case builds => exact fun s n hn => ⟨_, exec_frameBuild_of_lt_two hn s, rfl⟩

end Sys2Proof.Machine
end

-- ==== Proofs: the CRC step as a permutation and by a table of the low byte ====
section
/-!
SUPPORT. The rounds are injective (40_crc.md R109), and they are linear over XOR, so a step is a shift and one of 256 table entries.
-/

namespace Sys2Proof.Machine

/-! Rounds can be undone. -/

/-- This hardware's polynomial has its top bit set, so a round moves the accumulator's low bit to the top. -/
theorem crcRound_fcb_top_bit (c : Crc) : (crcRound fcb c).getLsbD 15 = c.getLsbD 0 := by
  have hpoly : fcb.crcPoly.getLsbD 15 = true := by decide
  have hshift : (c >>> 1).getLsbD 15 = false := by simp
  unfold crcRound
  split
  next h => rw [BitVec.getLsbD_xor, hshift, hpoly, h]; rfl
  next h => rw [hshift, Bool.eq_false_iff.mpr h]

/-- An accumulator is its low bit and what a shift by one leaves. -/
theorem eq_of_low_bit_of_shift {c d : Crc} (hlow : c.getLsbD 0 = d.getLsbD 0) (hshift : c >>> 1 = d >>> 1) : c = d := by
  apply BitVec.eq_of_getLsbD_eq
  intro k _
  cases k with
  | zero => exact hlow
  | succ k => simpa [BitVec.getLsbD_ushiftRight, Nat.add_comm] using congrArg (·.getLsbD k) hshift

/-- The top bit of a round's result says whether the polynomial was added, so the round can be undone. -/
theorem crcRound_fcb_injective : Function.Injective (crcRound fcb) := by
  intro c d h
  have hlow : c.getLsbD 0 = d.getLsbD 0 := by rw [← crcRound_fcb_top_bit, h, crcRound_fcb_top_bit]
  refine eq_of_low_bit_of_shift hlow ?_
  unfold crcRound at h
  rw [hlow] at h
  split at h
  · exact BitVec.xor_left_inj fcb.crcPoly |>.mp h
  · exact h

theorem crcRounds_fcb_injective (n : Nat) : Function.Injective (crcRounds fcb n) := by
  induction n with
  | zero => exact Function.injective_id
  | succ n ih => exact ih.comp crcRound_fcb_injective

theorem crcStep_fcb_injective (b : Byte) : Function.Injective (fun c : Crc => crcStep fcb c b) :=
  (crcRounds_fcb_injective 8).comp fun _ _ => (BitVec.xor_left_inj (zext 16 b)).mp

/-! Rounds are linear over XOR. -/

/-- A round is linear over XOR: the low bits add, and with them the polynomials. -/
theorem crcRound_xor (cfg : Config) (c d : Crc) : crcRound cfg (c ^^^ d) = crcRound cfg c ^^^ crcRound cfg d := by
  have hself : (c >>> 1 ^^^ cfg.crcPoly) ^^^ (d >>> 1 ^^^ cfg.crcPoly) = c >>> 1 ^^^ d >>> 1 := by
    rw [BitVec.xor_assoc, ← BitVec.xor_assoc cfg.crcPoly, BitVec.xor_comm cfg.crcPoly, BitVec.xor_assoc, BitVec.xor_self,
      BitVec.xor_zero]
  simp only [crcRound, BitVec.getLsbD_xor, BitVec.ushiftRight_xor_distrib]
  cases c.getLsbD 0 with
  | false => cases d.getLsbD 0 <;> simp [BitVec.xor_assoc]
  | true =>
    cases d.getLsbD 0 with
    | false => simp [BitVec.xor_assoc, BitVec.xor_comm cfg.crcPoly]
    | true => simpa using hself.symm

theorem crcRounds_xor (cfg : Config) (n : Nat) (c d : Crc) :
    crcRounds cfg n (c ^^^ d) = crcRounds cfg n c ^^^ crcRounds cfg n d := by
  induction n generalizing c d with
  | zero => rfl
  | succ n ih => rw [crcRounds_succ, crcRound_xor, ih, ← crcRounds_succ, ← crcRounds_succ]

/-- A step is a shift by a byte and the table's entry, the step from 0, of the low byte XORed with the input. -/
theorem crcStep_eq_shift_xor_table (cfg : Config) (c : Crc) (b : Byte) :
    crcStep cfg c b = (c >>> 8) ^^^ crcStep cfg 0 (c.extractLsb' 0 8 ^^^ b) := by
  have hsplit : c ^^^ zext 16 b = ((c >>> 8) <<< 8) ^^^ (0 ^^^ zext 16 (c.extractLsb' 0 8 ^^^ b)) := by
    ext k hk
    by_cases h8 : k < 8
    · simp [zext, h8, BitVec.getLsbD_eq_getElem hk]
    · simp [zext, h8, show 8 + (k - 8) = k by omega, BitVec.getLsbD_eq_getElem hk]
  have hlow : ∀ k < 8, ((c >>> 8) <<< 8).getLsbD k = false := fun k hk => by simp [hk]
  have hback : (c >>> 8) <<< 8 >>> 8 = c >>> 8 := by
    ext k hk
    simpa using BitVec.lt_of_getLsbD (x := c) (i := 8 + k)
  rw [crcStep, hsplit, crcRounds_xor, crcRounds_of_low_bits_zero cfg 8 hlow, hback, crcStep]

/-- The table's entries that, with their high byte moved down and added, show the low byte they stand for. -/
theorem table_entry_shows_index_iff (l : Byte) :
    ((crcStep fcb 0 l >>> 8) ^^^ crcStep fcb 0 l).extractLsb' 0 8 = l ↔ l = 0x00 ∨ l = 0x0F := by
  revert l; decide

/-- The accumulators that the byte 0x00 keeps: the high byte is the table entry's, which leaves one accumulator per low byte, and
of these two show the low byte they came from. -/
theorem crcStep_zero_fixed_iff (c : Crc) : crcStep fcb c 0x00 = c ↔ c = 0x0000 ∨ c = 0xF80F := by
  constructor
  · intro h
    have htable : (c >>> 8) ^^^ crcStep fcb 0 (c.extractLsb' 0 8) = c := by
      simpa [crcStep_eq_shift_xor_table fcb c] using h
    have hhigh : c >>> 8 = crcStep fcb 0 (c.extractLsb' 0 8) >>> 8 := by
      have hzero : c >>> 8 >>> 8 = 0 := by
        rw [← BitVec.shiftRight_add]
        exact BitVec.ushiftRight_eq_zero (by decide)
      have hshift := congrArg (fun x : Crc => x >>> 8) htable
      simpa [BitVec.ushiftRight_xor_distrib, hzero] using hshift.symm
    rw [hhigh] at htable
    have hlow := congrArg (BitVec.extractLsb' 0 8) htable
    obtain hl | hl := (table_entry_shows_index_iff _).mp hlow
    · rw [hl] at htable
      exact .inl (htable.symm.trans (by decide))
    · rw [hl] at htable
      exact .inr (htable.symm.trans (by decide))
  · rintro (rfl | rfl) <;> decide

end Sys2Proof.Machine
end

-- ==== Proofs: the statements about one step of the CRC ====
section
/-!
The obligations of 40_crc.md R105 and R109 on the accumulators one byte leads to.
-/

namespace Sys2Proof.Machine

/-- Settles O9: CRC_BYTE 0x00 writes the step by 0x00, whose kept accumulators are read off the table. -/
theorem zeroByteKeepsExactlyTwoAccumulators : Obligations.ZeroByteKeepsExactlyTwoAccumulators := by
  rintro c s rfl
  exact ⟨_, exec_crcByte s 0x00, crcStep_zero_fixed_iff s.crc⟩

/-- Settles O42: an injective map of finitely many values to themselves is a bijection. -/
theorem crcStepIsPermutation : Obligations.CrcStepIsPermutation :=
  fun b => Finite.injective_iff_bijective.mp (crcStep_fcb_injective b)

end Sys2Proof.Machine
end

-- ==== Proofs: runs over served events, reserved registers, and pushes on a full frame ====
section
/-!
SUPPORT. A run goes to the end of a served list (60_exceptions.md R200) and stands still without events (R213); the reserved
offsets, FLEN and UID (10_state.md R39, R43, 42_match.md R155); and pushes on a full frame (41_frame.md R126).
-/

namespace Sys2Proof.Machine

/-! Runs. -/

/-- A list of served events is taken off to its end, whatever the commands in it do. -/
theorem run_of_served {s : State} (h : ∀ e ∈ s.pending, Served e) :
    ∃ t, core.run s.pending.length s = .next t ∧ t.pending = [] := by
  generalize hes : s.pending = es at h ⊢
  induction es generalizing s with
  | nil => exact ⟨s, rfl, hes⟩
  | cons e es ih =>
    obtain ⟨he, htail⟩ := List.forall_mem_cons.mp h
    obtain ⟨t, hstep, hpending⟩ := step_of_served hes he
    rw [List.length_cons, run_succ_of_step hstep]
    exact ih hpending htail

/-- Without an event every number of steps is idle. -/
theorem run_of_no_event {s : State} (h : s.pending = []) (n : Nat) : core.run n s = .next s := by
  induction n with
  | zero => rfl
  | succ n ih => rw [run_succ_of_step (step_of_no_event h), ih]

/-! Registers. -/

/-- The word offsets 8 to 63 are reserved (10_state.md R43). -/
theorem regAt_reserved (w : WordOffset) (hlow : 8 ≤ w.toNat) (hhigh : w.toNat < 64) : regAt w = .reserved := by
  revert w; decide

theorem regRead_reserved (s : State) {w : WordOffset} (hlow : 8 ≤ w.toNat) (hhigh : w.toNat < 64) : regRead w s = 0 := by
  rw [regRead, regAt_reserved w hlow hhigh]
  rfl

/-- FLEN reads the frame's length in every state that fits the buffer (10_state.md R39). -/
theorem regRead_flen_toNat {s : State} (h : s.fbuf.length ≤ 256) : (regRead 0x05 s).toNat = s.fbuf.length := by
  rw [regRead_flen, BitVec.toNat_ofNat]
  exact Nat.mod_eq_of_lt (by omega)

theorem regRead_rcount_toNat (s : State) : (regRead 0x06 s).toNat = s.rcount.toNat := by
  rw [regRead_rcount, zext, BitVec.toNat_setWidth]
  exact Nat.mod_eq_of_lt (by omega)

/-- The last bytes are 0 above the bytes accepted, or all three of them count (10_state.md R28). -/
theorem rlast_shift_uidLen {s : State} (h : ResponseInv s) : s.rlast >>> (8 * min s.rcount.toNat 3) = 0 := by
  obtain ⟨-, hzero, -⟩ := h
  have hlt : s.rlast.toNat < 2 ^ (8 * min s.rcount.toNat 3) := by
    by_cases hcount : s.rcount.toNat < 3
    · rw [Nat.min_eq_left hcount.le]
      exact hzero hcount
    · rw [Nat.min_eq_right (Nat.le_of_not_lt hcount)]
      exact s.rlast.isLt
  apply BitVec.eq_of_toNat_eq
  rw [BitVec.toNat_ushiftRight, Nat.shiftRight_eq_div_pow, Nat.div_eq_of_lt hlt]
  rfl

/-! Pushes on a full frame. -/

/-- After a failure some code is recorded. -/
theorem raiseErr_err_ne_zero (e : ErrCode) (s : State) : (raiseErr e s).err ≠ 0 := by
  rw [raiseErr_eq]
  show (if s.err = 0 then e.code else s.err) ≠ 0
  split
  · cases e <;> decide
  · assumption

/-- Every push on an open frame of 254 bytes fails, and after the first one none changes the record (60_exceptions.md R202). -/
theorem execAll_framePushes_of_full (d : Byte) (bs : List Byte) {s : State} (hopen : s.sealed = false)
    (hfull : s.fbuf.length = 254) : execAll ((d :: bs).map .framePush) s = .next (raiseErr .full s) := by
  induction bs generalizing d s with
  | nil => exact (execAll_singleton _ s).trans (exec_framePush_of_full d hopen hfull)
  | cons b bs ih =>
    rw [List.map_cons, execAll_cons (exec_framePush_of_full d hopen hfull),
      ih b (by rw [raiseErr_eq, hopen]) (by rw [raiseErr_eq, hfull]),
      raiseErr_of_recorded .full _ (raiseErr_err_ne_zero .full s)]

/-- FRAME_CLEAR and more than 254 pushes: 254 find room, the rest find the frame full (41_frame.md R126). -/
theorem execAll_framePushes_of_overlong {bs : List Byte} (h : 254 < bs.length) (s : State) :
    execAll (.frameClear :: bs.map .framePush) s = .next (raiseErr .full (s.setFrame (bs.take 254) false)) := by
  have htake : (bs.take 254).length = 254 := List.length_take_of_le h.le
  obtain ⟨d, ds, hrest⟩ : ∃ d ds, bs.drop 254 = d :: ds := List.exists_cons_of_length_pos (by simp [h])
  have hfits : execAll ((bs.take 254).map .framePush) (s.setFrame [] false) = .next (s.setFrame (bs.take 254) false) :=
    execAll_framePushes _ rfl ((Nat.zero_add _).trans_le htake.le)
  have hsplit : bs.map Instr.framePush = (bs.take 254).map .framePush ++ (d :: ds).map .framePush := by
    rw [← hrest, ← List.map_append, List.take_append_drop]
  rw [execAll_cons (exec_frameClear s), hsplit, execAll_append hfits]
  exact execAll_framePushes_of_full d ds rfl htake

end Sys2Proof.Machine
end

-- ==== Proofs: the statements about runs, plain registers and frame sequences ====
section
/-!
The obligations on the host's list (60_exceptions.md R200, R213, 20_memory.md R58), the plain registers (10_state.md section 4), the
invariant at reset, and whole frames (41_frame.md R126).
-/

namespace Sys2Proof.Machine

/-- Settles O25: a write to CMD executes its word, and a legal word its command. -/
theorem stepRunsDecodedCommand : Obligations.StepRunsDecodedCommand :=
  fun _ w _ i hpending hlegal => (step_write_cmd hpending).trans (execute_of_legal w i _ hlegal)

/-- Settles O28, by induction on the number of steps. -/
theorem blockHoldsStateWithoutEvent : Obligations.BlockHoldsStateWithoutEvent :=
  fun n _ h => run_of_no_event h n

/-- Settles O29, by induction on the list of events. -/
theorem everyServedEventListCompletes : Obligations.EveryServedEventListCompletes :=
  fun _ => run_of_served

/-- Settles O30, by induction on the list of commands. -/
theorem hostWritesRunTheirCommands : Obligations.HostWritesRunTheirCommands :=
  fun i is _ _ => run_commandEvents i is

/-- Settles O35: CMD is the one writable register; the bounds are the invariant's, kept by every step, and FRAME_SEAL adds two
bytes. -/
theorem plainRegisters : Obligations.PlainRegisters := by
  refine ⟨fun off => readOnlyAt_of_ne_cmd, fun s => ?fields, ?bounds, ?sealing⟩
  case fields =>
    exact ⟨rfl, extract_zext_same s.crc (by decide), extract_zext_above s.crc 16 16 (by decide),
      extract_zext_same s.addr (by decide), extract_zext_above s.addr 8 24 (by decide),
      extract_zext_same s.rcount (by decide), extract_zext_above s.rcount 10 22 (by decide),
      fun _ => regRead_reserved s⟩
  case bounds =>
    intro s t hs hstep
    obtain ⟨⟨hlen, -⟩, ⟨hcount, -⟩, -⟩ := everyStepKeepsInvariant s t hs hstep
    rw [regRead_flen_toNat hlen, regRead_rcount_toNat]
    exact ⟨rfl, hlen, hcount⟩
  case sealing =>
    intro s _ hopen
    refine ⟨_, exec_frameSeal_of_open hopen, ?_⟩
    rw [regRead_flen, regRead_flen, State.setFrame_fbuf, encodeFrame_length, crcBytes_fcb, BitVec.ofNat_add]
    rfl

/-- Settles O38: the invariant of a closed state is evaluated. -/
theorem resetSatisfiesInvariant : Obligations.ResetSatisfiesInvariant := inv_reset

/-- Settles O43: the pushes append the bytes in order, and FRAME_SEAL their checksum. -/
theorem frameSequenceBuildsEncoding : Obligations.FrameSequenceBuildsEncoding := by
  intro bs s hlen
  rw [execAll_frameSequence hlen, encodeFrame_fcb]
  rfl

/-- Settles O44: 254 pushes find room, the first of the rest records E_FULL, and the others keep it. -/
theorem overlongFrameKeepsFirst254Bytes : Obligations.OverlongFrameKeepsFirst254Bytes := by
  intro bs s hlen
  rw [execAll_framePushes_of_overlong hlen, raiseErr_eq]
  rfl

/-- Settles O52: the invariant bounds the last bytes by the count, and every step keeps it. -/
theorem uidIsZeroAboveItsLength : Obligations.UidIsZeroAboveItsLength := by
  intro s t hs hstep
  obtain ⟨-, hresp, -⟩ := everyStepKeepsInvariant s t hs hstep
  rw [regRead_result, resultWord_uid, resultWord_uidLen]
  exact rlast_shift_uidLen hresp

end Sys2Proof.Machine
end

-- ==== Proofs: the effect of a command without a cause of failure ====
section
/-!
SUPPORT. A command either raises the code of its cause of failure or has its effect (60_exceptions.md R203). So what a command
writes and what it reads is said of one function, field by field (10_state.md R22 to R31, R44).
-/

namespace Sys2Proof.Machine

/-- What a command does when it does not fail (40_crc.md, 41_frame.md, 42_match.md, 43_control.md). -/
def effect (i : Instr) (s : State) : State :=
  match i with
  | .nop => s
  | .crcInit => s.setCrc 0xFFFF
  | .crcByte d => s.setCrc (crcStep fcb s.crc d)
  | .setAddr a => s.setAddr a
  | .frameClear => s.setFrame [] false
  | .framePush d => s.setFrame (s.fbuf ++ [d]) false
  | .frameSeal => s.setFrame (encodeFrame fcb s.fbuf) true
  | .frameBuild n =>
    s.setFrame (encodeFrame fcb (if n = 0 then [0x06, s.addr, 0x01, 0x00, 0x06] else [0x04, s.addr, 0x0F])) true
  | .respStart => clearResponse s
  | .respByte d => acceptByte fcb d s
  | .clrErr => clearErr s
  | .softReset => resetBlock s

/-- A command without a cause of failure has its effect. -/
theorem exec_of_no_failure {i : Instr} {s : State} (h : failure i s = none) : exec i s = .next (effect i s) := by
  cases i with
  | framePush d =>
    cases hsealed : s.sealed with
    | true => simp [failure, hsealed] at h
    | false => exact exec_framePush_of_room d hsealed (by simpa [failure, hsealed] using h)
  | frameSeal => exact exec_frameSeal_of_open (by simpa [failure] using h)
  | frameBuild n => exact exec_frameBuild_of_lt_two (by simpa [failure] using h) s
  | _ => rfl

/-- All a command can have done: it raised its cause of failure, or had its effect. -/
theorem exec_cases {i : Instr} {s t : State} (h : exec i s = .next t) :
    (∃ e, failure i s = some e ∧ t = raiseErr e s) ∨ failure i s = none ∧ t = effect i s := by
  cases hfail : failure i s with
  | some e => exact .inl ⟨e, rfl, Host.Outcome.next.inj (h.symm.trans (exec_of_failure hfail))⟩
  | none => exact .inr ⟨rfl, Host.Outcome.next.inj (h.symm.trans (exec_of_no_failure hfail))⟩

/-- Two states with the same cause of failure take the same branch. -/
theorem exec_cases_pair {i : Instr} {s s' t t' : State} (h : exec i s = .next t) (h' : exec i s' = .next t')
    (hfail : failure i s = failure i s') :
    (∃ e, t = raiseErr e s ∧ t' = raiseErr e s') ∨ t = effect i s ∧ t' = effect i s' := by
  obtain ⟨e, hs, ht⟩ | ⟨hs, ht⟩ := exec_cases h
  · exact .inl ⟨e, ht, Host.Outcome.next.inj (h'.symm.trans (exec_of_failure (hfail.symm.trans hs)))⟩
  · exact .inr ⟨ht, Host.Outcome.next.inj (h'.symm.trans (exec_of_no_failure (hfail.symm.trans hs)))⟩

/-- Failing or not, a command does its effect but for the frame and the error record: those that can fail write no other field. -/
theorem exec_eq_effect_but_frame {i : Instr} {s t : State} (h : exec i s = .next t) :
    ∃ bs closed c, t = ((effect i s).setFrame bs closed).setErr c := by
  obtain ⟨e, hfail, rfl⟩ | ⟨-, rfl⟩ := exec_cases h
  · rw [raiseErr_eq]
    cases i with
    | framePush d => exact ⟨s.fbuf, s.sealed, _, rfl⟩
    | frameSeal => exact ⟨s.fbuf, s.sealed, _, rfl⟩
    | frameBuild n => exact ⟨s.fbuf, s.sealed, _, rfl⟩
    | _ => exact nomatch hfail
  · exact ⟨(effect i s).fbuf, (effect i s).sealed, (effect i s).err, rfl⟩

/-! A response byte writes the matcher's fields alone (42_match.md R150). -/

section
variable (cfg : Config) (d : Byte) (s : State)

theorem exists_acceptByte_eq_setResponse : ∃ n r m o, acceptByte cfg d s = (s.setResponse n r m).setOvf o := by
  obtain ⟨-, heq⟩ | ⟨-, heq⟩ := acceptByte_cases cfg d s
  · exact ⟨s.rcount, s.rlast, s.matched, true, heq⟩
  · exact ⟨s.rcount + 1, shiftIn s.rlast d, s.matched || markerHit cfg s.rcount s.rlast d, s.ovf, heq⟩

@[simp] theorem acceptByte_crc : (acceptByte cfg d s).crc = s.crc := by
  obtain ⟨n, r, m, o, heq⟩ := exists_acceptByte_eq_setResponse cfg d s; rw [heq]; rfl
@[simp] theorem acceptByte_addr : (acceptByte cfg d s).addr = s.addr := by
  obtain ⟨n, r, m, o, heq⟩ := exists_acceptByte_eq_setResponse cfg d s; rw [heq]; rfl
@[simp] theorem acceptByte_fbuf : (acceptByte cfg d s).fbuf = s.fbuf := by
  obtain ⟨n, r, m, o, heq⟩ := exists_acceptByte_eq_setResponse cfg d s; rw [heq]; rfl
@[simp] theorem acceptByte_sealed : (acceptByte cfg d s).sealed = s.sealed := by
  obtain ⟨n, r, m, o, heq⟩ := exists_acceptByte_eq_setResponse cfg d s; rw [heq]; rfl
@[simp] theorem acceptByte_err : (acceptByte cfg d s).err = s.err := by
  obtain ⟨n, r, m, o, heq⟩ := exists_acceptByte_eq_setResponse cfg d s; rw [heq]; rfl

end

end Sys2Proof.Machine
end

-- ==== Proofs: the writers of each field ====
section
/-!
SUPPORT. Which commands may change each field and each flag (10_state.md R22 to R31, R44): every other command's effect leaves it.
-/

namespace Sys2Proof.Machine

variable {i : Instr} {s t : State} (h : exec i s = .next t)
include h

/-! The fields (10_state.md R22 to R24, R26, R28, R31). -/

theorem exec_crc_writers (hne : t.crc ≠ s.crc) : i = .crcInit ∨ (∃ d, i = .crcByte d) ∨ i = .softReset := by
  obtain ⟨bs, closed, c, rfl⟩ := exec_eq_effect_but_frame h
  cases i with
  | crcInit => exact .inl rfl
  | crcByte d => exact .inr (.inl ⟨d, rfl⟩)
  | softReset => exact .inr (.inr rfl)
  | respByte d => exact absurd (acceptByte_crc fcb d s) hne
  | _ => exact absurd rfl hne

theorem exec_addr_writers (hne : t.addr ≠ s.addr) : (∃ a, i = .setAddr a) ∨ i = .softReset := by
  obtain ⟨bs, closed, c, rfl⟩ := exec_eq_effect_but_frame h
  cases i with
  | setAddr a => exact .inl ⟨a, rfl⟩
  | softReset => exact .inr rfl
  | respByte d => exact absurd (acceptByte_addr fcb d s) hne
  | _ => exact absurd rfl hne

theorem exec_fbuf_writers (hne : t.fbuf ≠ s.fbuf) :
    i = .frameClear ∨ (∃ d, i = .framePush d) ∨ i = .frameSeal ∨ (∃ n, i = .frameBuild n) ∨ i = .softReset := by
  obtain ⟨e, -, rfl⟩ | ⟨-, rfl⟩ := exec_cases h
  · rw [raiseErr_eq] at hne
    exact absurd rfl hne
  · cases i with
    | frameClear => exact .inl rfl
    | framePush d => exact .inr (.inl ⟨d, rfl⟩)
    | frameSeal => exact .inr (.inr (.inl rfl))
    | frameBuild n => exact .inr (.inr (.inr (.inl ⟨n, rfl⟩)))
    | softReset => exact .inr (.inr (.inr (.inr rfl)))
    | respByte d => exact absurd (acceptByte_fbuf fcb d s) hne
    | _ => exact absurd rfl hne

/-- A command of the matcher or the reset, or all of the matcher is kept (42_match.md R150). -/
theorem exec_matcher_writers :
    (i = .respStart ∨ (∃ d, i = .respByte d) ∨ i = .softReset) ∨ SameMatcher t s := by
  obtain ⟨bs, closed, c, rfl⟩ := exec_eq_effect_but_frame h
  cases i with
  | respStart => exact .inl (.inl rfl)
  | respByte d => exact .inl (.inr (.inl ⟨d, rfl⟩))
  | softReset => exact .inl (.inr (.inr rfl))
  | _ => exact .inr ⟨rfl, rfl, rfl, rfl⟩

theorem exec_err_writers (hne : t.err ≠ s.err) : failure i s ≠ none ∨ ClearsErr i := by
  by_contra hother
  obtain ⟨hfail, hclears⟩ := not_or.mp hother
  obtain ⟨u, hu, hkept⟩ := exec_keeps_err_of_no_failure (not_not.mp hfail) hclears
  obtain rfl := Host.Outcome.next.inj (h.symm.trans hu)
  exact hne hkept

/-! The flags (10_state.md R44). -/

theorem exec_sealed_rise (hopen : s.sealed = false) (hclosed : t.sealed = true) :
    i = .frameSeal ∨ ∃ n, i = .frameBuild n := by
  obtain ⟨e, -, rfl⟩ | ⟨-, rfl⟩ := exec_cases h
  · rw [raiseErr_eq] at hclosed
    exact absurd (hopen.symm.trans hclosed) Bool.false_ne_true
  · cases i with
    | frameSeal => exact .inl rfl
    | frameBuild n => exact .inr ⟨n, rfl⟩
    | frameClear | framePush d | softReset => exact absurd hclosed Bool.false_ne_true
    | respByte d => exact absurd (hopen.symm.trans ((acceptByte_sealed fcb d s).symm.trans hclosed)) Bool.false_ne_true
    | _ => exact absurd (hopen.symm.trans hclosed) Bool.false_ne_true

/-- FRAME_PUSH does not open a frame: it fails on a sealed one (41_frame.md R126). -/
theorem exec_sealed_fall (hclosed : s.sealed = true) (hopen : t.sealed = false) : i = .frameClear ∨ i = .softReset := by
  obtain ⟨e, -, rfl⟩ | ⟨hfail, rfl⟩ := exec_cases h
  · rw [raiseErr_eq] at hopen
    exact absurd (hopen.symm.trans hclosed) Bool.false_ne_true
  · cases i with
    | frameClear => exact .inl rfl
    | softReset => exact .inr rfl
    | framePush d => simp [failure, hclosed] at hfail
    | frameSeal | frameBuild n => exact absurd hopen.symm Bool.false_ne_true
    | respByte d => exact absurd (hopen.symm.trans ((acceptByte_sealed fcb d s).trans hclosed)) Bool.false_ne_true
    | _ => exact absurd (hopen.symm.trans hclosed) Bool.false_ne_true

/-- What a command can do to `match` and `ovf`: clear both, drop a byte, test a byte, or leave both (42_match.md R151, R152). -/
theorem exec_matched_ovf_cases :
    ((i = .respStart ∨ i = .softReset) ∧ t.matched = false ∧ t.ovf = false) ∨
    (∃ d, i = .respByte d ∧ s.rcount = 512 ∧ t.matched = s.matched ∧ t.ovf = true) ∨
    (∃ d, i = .respByte d ∧ t.matched = (s.matched || isMarker fcb d) ∧ t.ovf = s.ovf) ∨
    t.matched = s.matched ∧ t.ovf = s.ovf := by
  obtain (rfl | ⟨d, rfl⟩ | rfl) | ⟨-, -, hmatched, hovf⟩ := exec_matcher_writers h
  · obtain rfl := Host.Outcome.next.inj ((exec_respStart s).symm.trans h)
    exact .inl ⟨.inl rfl, rfl, rfl⟩
  · obtain rfl := Host.Outcome.next.inj ((exec_respByte s d).symm.trans h)
    refine .inr ?_
    obtain ⟨hfull, heq⟩ | ⟨-, heq⟩ := acceptByte_cases fcb d s <;> rw [heq]
    · exact .inl ⟨d, rfl, hfull, rfl, rfl⟩
    · exact .inr (.inl ⟨d, rfl, congrArg (s.matched || ·) (markerHit_fcb _ _ d), rfl⟩)
  · obtain rfl := Host.Outcome.next.inj ((exec_softReset s).symm.trans h)
    exact .inl ⟨.inr rfl, rfl, rfl⟩
  · exact .inr (.inr (.inr ⟨hmatched, hovf⟩))

theorem exec_matched_rise (hunset : s.matched = false) (hset : t.matched = true) :
    i = .respByte 0xFB ∨ i = .respByte 0xFE := by
  obtain ⟨-, hm, -⟩ | ⟨d, -, -, hm, -⟩ | ⟨d, rfl, hm, -⟩ | ⟨hm, -⟩ := exec_matched_ovf_cases h <;> rw [hm] at hset
  · contradiction
  · simp [hunset] at hset
  · rw [hunset, Bool.false_or, isMarker_fcb] at hset
    exact hset.imp (congrArg _) (congrArg _)
  · simp [hunset] at hset

theorem exec_matched_fall (hset : s.matched = true) (hunset : t.matched = false) : i = .respStart ∨ i = .softReset := by
  obtain ⟨hi, -, -⟩ | ⟨d, -, -, hm, -⟩ | ⟨d, -, hm, -⟩ | ⟨hm, -⟩ := exec_matched_ovf_cases h
  · exact hi
  all_goals simp [hm, hset] at hunset

theorem exec_ovf_rise (hunset : s.ovf = false) (hset : t.ovf = true) : s.rcount = 512 ∧ ∃ d, i = .respByte d := by
  obtain ⟨-, -, ho⟩ | ⟨d, hi, hfull, -, -⟩ | ⟨d, -, -, ho⟩ | ⟨-, ho⟩ := exec_matched_ovf_cases h
  case inr.inl => exact ⟨hfull, d, hi⟩
  all_goals simp [ho, hunset] at hset

theorem exec_ovf_fall (hset : s.ovf = true) (hunset : t.ovf = false) : i = .respStart ∨ i = .softReset := by
  obtain ⟨hi, -, -⟩ | ⟨d, -, -, -, ho⟩ | ⟨d, -, -, ho⟩ | ⟨-, ho⟩ := exec_matched_ovf_cases h
  · exact hi
  all_goals simp [ho, hset] at hunset

theorem exec_err_rise (hnone : s.err = 0) (hsome : t.err ≠ 0) : failure i s ≠ none := by
  refine (exec_err_writers h (hnone ▸ hsome)).resolve_right fun hclears => ?_
  obtain ⟨-, u, hu, hzero⟩ := exec_of_clearsErr hclears s
  obtain rfl := Host.Outcome.next.inj (h.symm.trans hu)
  exact hsome hzero

theorem exec_recorded_err_writers (hsome : s.err ≠ 0) (hne : t.err ≠ s.err) : ClearsErr i := by
  by_contra hclears
  obtain ⟨u, hu, hkept⟩ := exec_keeps_recorded_err hsome hclears
  obtain rfl := Host.Outcome.next.inj (h.symm.trans hu)
  exact hne hkept

end Sys2Proof.Machine
end

-- ==== Proofs: what a command reads ====
section
/-!
SUPPORT. States that agree on a unit's fields agree on them after any command (41_frame.md R120, 42_match.md R150), and a flag that
no command reads changes no other field (10_state.md R44).
-/

namespace Sys2Proof.Machine

/-! The units. -/

/-- A cause of failure is read from the frame builder's fields. -/
theorem failure_congr (i : Instr) {s s' : State} (h : SameFrame s s') : failure i s = failure i s' := by
  obtain ⟨-, hfbuf, hsealed⟩ := h
  cases i with
  | framePush d => rw [failure, failure, hfbuf, hsealed]
  | frameSeal => rw [failure, failure, hsealed]
  | _ => rfl

theorem effect_crc_congr (i : Instr) {s s' : State} (h : s.crc = s'.crc) : (effect i s).crc = (effect i s').crc := by
  cases i with
  | crcInit => rfl
  | softReset => rfl
  | crcByte d => exact congrArg (crcStep fcb · d) h
  | respByte d => rw [effect, effect, acceptByte_crc, acceptByte_crc, h]
  | _ => exact h

theorem effect_sameFrame (i : Instr) {s s' : State} (h : SameFrame s s') : SameFrame (effect i s) (effect i s') := by
  have ⟨haddr, hfbuf, hsealed⟩ := h
  cases i with
  | setAddr a => exact ⟨rfl, hfbuf, hsealed⟩
  | frameClear => exact ⟨haddr, rfl, rfl⟩
  | framePush d => exact ⟨haddr, congrArg (· ++ [d]) hfbuf, rfl⟩
  | frameSeal => exact ⟨haddr, congrArg (encodeFrame fcb) hfbuf, rfl⟩
  | frameBuild n => exact ⟨haddr, by simp [effect, haddr], rfl⟩
  | respByte d => simpa [SameFrame, effect] using h
  | softReset => exact ⟨rfl, rfl, rfl⟩
  | _ => exact h

theorem effect_sameMatcher (i : Instr) {s s' : State} (h : SameMatcher s s') : SameMatcher (effect i s) (effect i s') := by
  cases i with
  | respStart => exact ⟨rfl, rfl, rfl, rfl⟩
  | respByte d => exact acceptByte_sameMatcher fcb d h
  | softReset => exact ⟨rfl, rfl, rfl, rfl⟩
  | _ => exact h

theorem effect_err_congr (i : Instr) {s s' : State} (h : s.err = s'.err) : (effect i s).err = (effect i s').err := by
  cases i with
  | clrErr => rfl
  | softReset => rfl
  | respByte d => rw [effect, effect, acceptByte_err, acceptByte_err, h]
  | _ => exact h

section
variable {i : Instr} {s s' t t' : State} (h : exec i s = .next t) (h' : exec i s' = .next t')
include h h'

theorem exec_crc_congr (hcrc : s.crc = s'.crc) : t.crc = t'.crc := by
  obtain ⟨_, _, _, rfl⟩ := exec_eq_effect_but_frame h
  obtain ⟨_, _, _, rfl⟩ := exec_eq_effect_but_frame h'
  exact effect_crc_congr i hcrc

theorem exec_sameMatcher (hmatcher : SameMatcher s s') : SameMatcher t t' := by
  obtain ⟨_, _, _, rfl⟩ := exec_eq_effect_but_frame h
  obtain ⟨_, _, _, rfl⟩ := exec_eq_effect_but_frame h'
  exact effect_sameMatcher i hmatcher

theorem exec_sameFrame (hframe : SameFrame s s') : SameFrame t t' := by
  obtain ⟨e, rfl, rfl⟩ | ⟨rfl, rfl⟩ := exec_cases_pair h h' (failure_congr i hframe)
  · rw [raiseErr_eq, raiseErr_eq]
    exact hframe
  · exact effect_sameFrame i hframe

/-- The record after a command depends on the frame builder, which has all the causes of failure, and on the record before. -/
theorem exec_err_congr (hframe : SameFrame s s') (herr : s.err = s'.err) : t.err = t'.err := by
  obtain ⟨e, rfl, rfl⟩ | ⟨rfl, rfl⟩ := exec_cases_pair h h' (failure_congr i hframe)
  · simp only [raiseErr_eq, herr]
  · exact effect_err_congr i herr

end

/-! The flags. -/

section
variable {i : Instr} {s t u : State} (h : exec i s = .next t)
include h

/-- No command reads `ovf`, and none reads `err` but to keep or set it. -/
theorem exec_ignores_ovf_err {o : Bool} {e : Err} (h' : exec i { s with ovf := o, err := e } = .next u) :
    { u with ovf := t.ovf, err := t.err } = t := by
  obtain ⟨c, rfl, rfl⟩ | ⟨rfl, rfl⟩ := exec_cases_pair h h' (failure_congr i ⟨rfl, rfl, rfl⟩)
  · simp only [raiseErr_eq]
  · cases i with
    | respByte d => simp only [effect, acceptByte]; split <;> rfl
    | _ => rfl

/-- No command reads `match` but to keep or set it. -/
theorem exec_ignores_matched {m : Bool} (h' : exec i { s with matched := m } = .next u) :
    { u with matched := t.matched } = t := by
  obtain ⟨c, rfl, rfl⟩ | ⟨rfl, rfl⟩ := exec_cases_pair h h' (failure_congr i ⟨rfl, rfl, rfl⟩)
  · simp only [raiseErr_eq]
  · cases i with
    | respByte d => simp only [effect, acceptByte]; split <;> rfl
    | _ => rfl

/-- Only FRAME_PUSH and FRAME_SEAL fail on a sealed frame; no other command reads `sealed` but to keep or set it. -/
theorem exec_ignores_sealed {b : Bool} (h' : exec i { s with sealed := b } = .next u) (hpush : ∀ d, i ≠ .framePush d)
    (hseal : i ≠ .frameSeal) : { u with sealed := t.sealed } = t := by
  have hfail : failure i s = failure i { s with sealed := b } := by
    cases i with
    | framePush d => exact absurd rfl (hpush d)
    | frameSeal => exact absurd rfl hseal
    | _ => rfl
  obtain ⟨c, rfl, rfl⟩ | ⟨rfl, rfl⟩ := exec_cases_pair h h' hfail
  · simp only [raiseErr_eq]
  · cases i with
    | respByte d => simp only [effect, acceptByte]; split <;> rfl
    | _ => rfl

end

/-! What RESULT shows (42_match.md R154, R162). -/

/-- CLASS 1, CardNotDetected, says that a byte was accepted and a marker seen. -/
theorem class_cardNotDetected_iff (s : State) :
    (resultWord fcb s).extractLsb' 28 2 = 1 ↔ s.rcount ≠ 0 ∧ s.matched = true := by
  rw [resultWord_class, classCode_classify]
  split
  next hzero => simp [hzero]
  next hpos =>
    cases s.matched with
    | false => simp
    | true => exact iff_of_true rfl ⟨hpos, rfl⟩

/-- With the invariant, `match` is CLASS 1 (10_state.md R29). -/
theorem class_cardNotDetected_of_matched {s : State} (hs : Inv s) (hset : s.matched = true) :
    (resultWord fcb s).extractLsb' 28 2 = 1 := by
  obtain ⟨-, ⟨-, -, hcount, -⟩, -⟩ := hs
  exact (class_cardNotDetected_iff s).mpr ⟨hcount hset, hset⟩

/-- Over commands without RESP_START and SOFT_RESET the invariant and `match` stay. -/
theorem execAll_keeps_matched (is : List Instr) {s : State} (hs : Inv s) (hset : s.matched = true)
    (hstart : .respStart ∉ is) (hreset : .softReset ∉ is) :
    ∃ t, execAll is s = .next t ∧ Inv t ∧ t.matched = true := by
  induction is generalizing s with
  | nil => exact ⟨s, rfl, hs, hset⟩
  | cons i is ih =>
    obtain ⟨t, ht, hinv⟩ := inv_exec i hs
    have hkept : t.matched = true := by
      by_contra hunset
      obtain rfl | rfl := exec_matched_fall ht hset (Bool.eq_false_iff.mpr hunset)
      · exact hstart List.mem_cons_self
      · exact hreset List.mem_cons_self
    rw [execAll_cons ht]
    exact ih hinv hkept (List.not_mem_of_not_mem_cons hstart) (List.not_mem_of_not_mem_cons hreset)

end Sys2Proof.Machine
end

-- ==== Proofs: the statements about writers and readers ====
section
/-!
The obligations on which commands write and read which fields (10_state.md sections 3 and 5, 41_frame.md R120, 42_match.md R150,
R162).
-/

namespace Sys2Proof.Machine

/-- Settles O53: RESULT shows the matcher's fields; `match` falls by the two clearing commands alone; and 0xFB is a marker. -/
theorem resultIsLiveAndMarkerSticks : Obligations.ResultIsLiveAndMarkerSticks := by
  refine ⟨?live, ?sticks, ?marker⟩
  case live =>
    intro i s hbyte hstart hreset
    obtain ⟨t, ht⟩ := exec_answers_next i s
    obtain (hi | ⟨d, hi⟩ | hi) | hsame := exec_matcher_writers ht
    · exact absurd hi hstart
    · exact absurd hi (hbyte d)
    · exact absurd hi hreset
    · have ⟨_, _, hmatched, _⟩ := hsame
      exact ⟨t, ht, resultWord_congr fcb hsame, hmatched⟩
  case sticks =>
    intro is s hs hstart hreset hclass
    obtain ⟨-, hset⟩ := (class_cardNotDetected_iff s).mp hclass
    obtain ⟨t, ht, hinv, hkept⟩ := execAll_keeps_matched is hs hset hstart hreset
    exact ⟨t, ht, class_cardNotDetected_of_matched hinv hkept⟩
  case marker =>
    intro s hroom _
    refine ⟨_, exec_respByte s 0xFB, (class_cardNotDetected_iff _).mpr ?_⟩
    have hnext : (s.rcount + 1).toNat = s.rcount.toNat + 1 := BitVec.toNat_add_of_lt (by simp; omega)
    rw [acceptByte_of_room 0xFB hroom]
    refine ⟨fun hzero => ?_, by simp [isMarker_fcb]⟩
    have : (s.rcount + 1).toNat = 0 := congrArg BitVec.toNat hzero
    omega

/-- Settles O54, field by field from the writers of each. -/
theorem eachFieldHasItsWriters : Obligations.EachFieldHasItsWriters := by
  intro i s
  obtain ⟨t, ht, hpending, hreply⟩ := exec_keeps_host i s
  refine ⟨t, ht, exec_crc_writers ht, exec_addr_writers ht, exec_fbuf_writers ht, fun hne => ?matcher, exec_err_writers ht,
    hpending, hreply⟩
  exact (exec_matcher_writers ht).resolve_right fun ⟨hrcount, hrlast, _⟩ => hne.elim (· hrcount) (· hrlast)

/-- Settles O55: the writers of each flag, and for each flag two runs from states that differ in it alone. -/
theorem eachFlagHasItsWritersAndReaders : Obligations.EachFlagHasItsWritersAndReaders := by
  refine ⟨fun i s => ?writers, fun i s o e => ?ovfErr, fun i s b hpush hseal => ?sealing, fun i s m => ?marker⟩
  case writers =>
    obtain ⟨t, ht⟩ := exec_answers_next i s
    exact ⟨t, ht, exec_sealed_rise ht, exec_sealed_fall ht, exec_matched_rise ht, exec_matched_fall ht, exec_ovf_rise ht,
      exec_ovf_fall ht, exec_err_rise ht, exec_recorded_err_writers ht⟩
  all_goals
    obtain ⟨t, ht⟩ := exec_answers_next i s
    obtain ⟨u, hu⟩ := exec_answers_next i _
  case ovfErr => exact ⟨t, u, ht, hu, exec_ignores_ovf_err ht hu⟩
  case sealing => exact ⟨t, u, ht, hu, exec_ignores_sealed ht hu hpush hseal⟩
  case marker => exact ⟨t, u, ht, hu, exec_ignores_matched ht hu⟩

/-- Settles O56, unit by unit: failing or not, a command's effect on a unit is a function of the unit. -/
theorem unitsDoNotInterfere : Obligations.UnitsDoNotInterfere := by
  intro i s s'
  obtain ⟨t, ht⟩ := exec_answers_next i s
  obtain ⟨t', ht'⟩ := exec_answers_next i s'
  exact ⟨t, t', ht, ht', exec_crc_congr ht ht', exec_sameFrame ht ht', exec_sameMatcher ht ht', exec_err_congr ht ht'⟩

/-- Settles O57: a frame command writes the frame builder's fields or fails, which writes `err`. -/
theorem unitCommandsStayInTheirUnit : Obligations.UnitCommandsStayInTheirUnit := by
  intro s
  refine ⟨?crc, ?frame, ?matcher⟩
  case crc =>
    rintro i (rfl | ⟨d, rfl⟩)
    · exact ⟨_, exec_crcInit s⟩
    · exact ⟨_, exec_crcByte s d⟩
  case frame =>
    intro i hi
    obtain ⟨t, ht⟩ := exec_answers_next i s
    obtain ⟨bs, closed, c, rfl⟩ := exec_eq_effect_but_frame ht
    refine ⟨(effect i s).addr, bs, closed, c, ht.trans ?_⟩
    obtain rfl | rfl | ⟨d, rfl | rfl | rfl⟩ := hi <;> rfl
  case matcher =>
    rintro i (rfl | ⟨d, rfl⟩)
    · exact ⟨_, _, _, _, exec_respStart s⟩
    · obtain ⟨n, r, m, o, heq⟩ := exists_acceptByte_eq_setResponse fcb d s
      exact ⟨n, r, m, o, (exec_respByte s d).trans (congrArg _ heq)⟩

end Sys2Proof.Machine
end
